-- ==== Sys2Proof/Word.lean ====
section
/-! DEFINITION. The value types of DHTCORE: bytes and 32-bit time words (R23, R63), levels, pulls, directions and the
three fields of the GPIO line's configuration (R23, R33). -/

namespace Sys2Proof

/-- An unsigned 8-bit value (`u8`, R23): operation words, payload bytes, reading bytes. -/
abbrev Byte := BitVec 8

/-- An unsigned 32-bit value (`u32`, R23): every time value and every recorded duration (R18, R63, R64). -/
abbrev Word := BitVec 32

/-- A line level, the `u1` of R23: 1 is high, 0 is low. -/
inductive Level where
  | low
  | high
deriving DecidableEq, Repr, Inhabited

/-- A pull, `{up, down}` of the GpioLine contract: 0 down, 1 up (R33, R61). -/
inductive Pull where
  | down
  | up
deriving DecidableEq, Repr, Inhabited

/-- The direction of the line, `line_dir`: 1 = output, 0 = input (R33). -/
inductive Dir where
  | input
  | output
deriving DecidableEq, Repr, Inhabited

/-- The configuration of the GPIO line: the three fields `line_dir`, `line_pull` and `line_out` (R33). -/
structure LineCfg where
  dir  : Dir
  pull : Pull
  out  : Level
deriving DecidableEq, Repr, Inhabited

end Sys2Proof
end

