-- ==== Sys2Proof/Config.lean ====
section
/-! DEFINITION. The named constants of R10 to R22, and the values the spec leaves open: constants with no body, so that
no proof can see what they are. -/

namespace Sys2Proof.Config

/-- `N_TRANS = 84` (R10): the number of level transitions a successful capture records. -/
abbrev nTrans : Nat := 84

/-- `N_PRE = 4` (R11): the leading transitions the capture discards. -/
abbrev nPre : Nat := 4

/-- `N_TRAIN = N_TRANS - N_PRE = 80` (R12): the length of the PulseTrain. -/
abbrev nTrain : Nat := nTrans - nPre

/-- `N_BITS = 40` (R13): the number of payload bits. -/
abbrev nBits : Nat := 40

/-- `N_BYTES = 5` (R13): the number of payload bytes. -/
abbrev nBytes : Nat := 5

/-- `STALL_LIMIT = 100` (R14), in polls. -/
abbrev stallLimit : Nat := 100

/-- `HIGH_LEVEL_US = 50` (R15): the decoder's bit threshold. -/
abbrev highLevelUs : Nat := 50

/-- `HOLD_HIGH_US = 50000` (R16). -/
abbrev holdHighUs : Nat := 50000

/-- `HOLD_LOW_US = 18000` (R16). -/
abbrev holdLowUs : Nat := 18000

/-- `MIN_INTERVAL_US = 200000` (R17). -/
abbrev minIntervalUs : Nat := 200000

/-- `DATA_OFFSET = 1` (R20). -/
abbrev dataOffset : Nat := 1

/-- `INIT_LEVEL = 1`, high (R21). -/
abbrev initLevel : Level := .high

/-- `LINE_RESET_CFG` (R22): the line's configuration between reset and the first capture, OPEN, a parameter of the
model. Log entry 4. -/
opaque lineResetCfg : LineCfg

/-- The level the line environment answers to its `n`-th read when `State.lineScript` names none: a free draw
(R77, U10). Log entry 2. -/
opaque freeLevel : Nat → Level

/-- The number of microseconds by which the count `T` of R78 has advanced at its `n`-th read when `State.timeScript`
names none: a free draw, never negative (R78, U10). Log entry 3. -/
opaque freeAdvance : Nat → Nat

/-- Which of the two registers of R61 is the `since` operand of a `TIME_ELAPSED` that no phase calls: the spec names
no register there, so the choice is free (`true` for `hold_start`, `false` for `rd_measured_at`). Log entry 11. -/
opaque freeSinceIsHoldStart : Nat → Bool

end Sys2Proof.Config
end

