-- ==== Sys2Proof/Syntax.lean ====
section
/-! DEFINITION. The operations of DHTCORE (R3): `Instr` has one constructor for every row of spec/opcode_table.json. -/

namespace Sys2Proof

/-- The 14 legal values of the `phase` register, the block's program counter (R28). -/
inductive Phase where
  | idle
  | check
  | initHigh
  | holdHigh
  | initLow
  | holdLow
  | arm
  | poll
  | release
  | finish
  | decode
  | validate
  | commit
  | answer
deriving DecidableEq, Repr

/-- The four host commands, the legal values of the `cmd` register (R29, R58). -/
inductive HostCmd where
  | measure
  | readTemperature
  | readHumidity
  | readReading
deriving DecidableEq, Repr

/-- The port operations, with the operand bit of R60. -/
inductive PortOp where
  | setOutput (pull : Pull)
  | setInput (pull : Pull)
  | write (level : Level)
  | read
  | now
  | elapsed
deriving DecidableEq, Repr

/-- The operations: host commands (R58), internal operations (R59), port operations (R60). The `since` operand of
`TIME_ELAPSED` is no part of the word (R61). -/
inductive Instr where
  -- host commands, class 00
  | measure
  | readTemperature
  | readHumidity
  | readReading
  -- internal operations, class 01
  | idle
  | check
  | initHigh
  | holdHigh
  | initLow
  | holdLow
  | arm
  | poll
  | release
  | finish
  | decode
  | validate
  | commit
  | answer
  -- port operations, class 10
  | gpioSetOutput (pull : Pull)
  | gpioSetInput (pull : Pull)
  | gpioWrite (level : Level)
  | gpioRead
  | timeNow
  | timeElapsed
deriving DecidableEq, Repr

/-- The internal operation a phase performs (R28, R59). -/
def Phase.instr : Phase → Instr
  | .idle => .idle
  | .check => .check
  | .initHigh => .initHigh
  | .holdHigh => .holdHigh
  | .initLow => .initLow
  | .holdLow => .holdLow
  | .arm => .arm
  | .poll => .poll
  | .release => .release
  | .finish => .finish
  | .decode => .decode
  | .validate => .validate
  | .commit => .commit
  | .answer => .answer

/-- The operation a host command word names (R58). -/
def HostCmd.instr : HostCmd → Instr
  | .measure => .measure
  | .readTemperature => .readTemperature
  | .readHumidity => .readHumidity
  | .readReading => .readReading

/-- The operation a port word names (R60). -/
def PortOp.instr : PortOp → Instr
  | .setOutput p => .gpioSetOutput p
  | .setInput p => .gpioSetInput p
  | .write l => .gpioWrite l
  | .read => .gpioRead
  | .now => .timeNow
  | .elapsed => .timeElapsed

/-- The kind of an operation: what R3 calls host command, internal operation and port operation, with what each one
carries. -/
inductive Kind where
  | host (c : HostCmd)
  | internal (p : Phase)
  | port (op : PortOp)
deriving DecidableEq, Repr

/-- The kind of each operation (R3; the class field of R57). -/
def Instr.kind : Instr → Kind
  | .measure => .host .measure
  | .readTemperature => .host .readTemperature
  | .readHumidity => .host .readHumidity
  | .readReading => .host .readReading
  | .idle => .internal .idle
  | .check => .internal .check
  | .initHigh => .internal .initHigh
  | .holdHigh => .internal .holdHigh
  | .initLow => .internal .initLow
  | .holdLow => .internal .holdLow
  | .arm => .internal .arm
  | .poll => .internal .poll
  | .release => .internal .release
  | .finish => .internal .finish
  | .decode => .internal .decode
  | .validate => .internal .validate
  | .commit => .internal .commit
  | .answer => .internal .answer
  | .gpioSetOutput p => .port (.setOutput p)
  | .gpioSetInput p => .port (.setInput p)
  | .gpioWrite l => .port (.write l)
  | .gpioRead => .port .read
  | .timeNow => .port .now
  | .timeElapsed => .port .elapsed

end Sys2Proof
end

