-- ==== Sys2Proof/WellFormed.lean ====
section
/-! DEFINITION. Which operation may be issued by whom (R58, R60, R67). The operands of every operation are of types
that hold legal values only (a pull, a level), so the well-formedness of an operation is a matter of its issuer. -/

namespace Sys2Proof

/-- Who issues an operation: the host, or the block itself (R3, R8). -/
inductive Source where
  | host
  | block
deriving DecidableEq, Repr

/-- The issuer check. The host may issue the four host commands and nothing else (R58: "These are the only words the
host may issue"; R59: "The host can never issue an internal word"; R67). The block issues its internal operations and
its port operations (R3, R60), and no host command. -/
def Instr.wellFormed (src : Source) (i : Instr) : Bool :=
  match src, i.kind with
  | .host, .host _ => true
  | .host, .internal _ => false
  | .host, .port _ => false
  | .block, .host _ => false
  | .block, .internal _ => true
  | .block, .port _ => true

/-- The port operations that the block's own rules issue, out of all that R60 encodes: "The block itself never issues
`GPIO_SET_OUTPUT` with `p = 1`, `GPIO_SET_INPUT` with `p = 0`" (R60). -/
def PortOp.issuedByRules : PortOp → Bool
  | .setOutput .down => true
  | .setOutput .up => false
  | .setInput .down => false
  | .setInput .up => true
  | .write _ => true
  | .read => true
  | .now => true
  | .elapsed => true

end Sys2Proof
end

