-- ==== Sys2Proof/Decode.lean ====
section
/-! DEFINITION. The decoder of the 8-bit operation word (R57 to R61, R67, R68), total and rejecting by name, and the
encoder written from the same tables. -/

namespace Sys2Proof

/-- Why a word or a byte sequence is no operation. -/
inductive DecodeError where
  /-- A reserved word of class 00: 0x00, 0x05 to 0x3F (R58). -/
  | reservedHost (w : Byte)
  /-- A reserved word of class 01: 0x4E to 0x7F (R59). -/
  | reservedInternal (w : Byte)
  /-- A reserved word of class 10: 0x87, 0x8A to 0xBF (R60). -/
  | reservedPort (w : Byte)
  /-- A word of class 11: 0xC0 to 0xFF (R57, R60). -/
  | reservedClass (w : Byte)
  /-- There is no byte to decode: every operation word is one byte long (R57, R68). -/
  | noByte
deriving DecidableEq, Repr

/-- The `class` field, bits [7:6] (R57). -/
def classField (w : Byte) : BitVec 2 := w.extractLsb' 6 2

/-- The `op` field, bits [5:0] (R57). -/
def opField (w : Byte) : BitVec 6 := w.extractLsb' 0 6

/-- `pull = word[0]`, with 1 meaning up (R61). -/
def pullOperand (w : Byte) : Pull := if w.getLsbD 0 then .up else .down

/-- `level = word[0]`, with 1 meaning high (R61). -/
def levelOperand (w : Byte) : Level := if w.getLsbD 0 then .high else .low

/-- Class 00, by the op field (R58). -/
def decodeHost (w : Byte) : Except DecodeError Instr :=
  match (opField w).toNat with
  | 0x01 => .ok .measure
  | 0x02 => .ok .readTemperature
  | 0x03 => .ok .readHumidity
  | 0x04 => .ok .readReading
  | _ => .error (.reservedHost w)

/-- Class 01, by the op field: word 0x40 + op (R59). -/
def decodeInternal (w : Byte) : Except DecodeError Instr :=
  match (opField w).toNat with
  | 0x00 => .ok .idle
  | 0x01 => .ok .check
  | 0x02 => .ok .initHigh
  | 0x03 => .ok .holdHigh
  | 0x04 => .ok .initLow
  | 0x05 => .ok .holdLow
  | 0x06 => .ok .arm
  | 0x07 => .ok .poll
  | 0x08 => .ok .release
  | 0x09 => .ok .finish
  | 0x0A => .ok .decode
  | 0x0B => .ok .validate
  | 0x0C => .ok .commit
  | 0x0D => .ok .answer
  | _ => .error (.reservedInternal w)

/-- Class 10, by the op field: word 0x80 + op; bit 0 of the first three patterns is the operand (R60, R61). -/
def decodePort (w : Byte) : Except DecodeError Instr :=
  match (opField w).toNat with
  | 0x00 => .ok (.gpioSetOutput (pullOperand w))
  | 0x01 => .ok (.gpioSetOutput (pullOperand w))
  | 0x02 => .ok (.gpioSetInput (pullOperand w))
  | 0x03 => .ok (.gpioSetInput (pullOperand w))
  | 0x04 => .ok (.gpioWrite (levelOperand w))
  | 0x05 => .ok (.gpioWrite (levelOperand w))
  | 0x06 => .ok .gpioRead
  | 0x08 => .ok .timeNow
  | 0x09 => .ok .timeElapsed
  | _ => .error (.reservedPort w)

/-- Decode one operation word: "The class field alone decides which table a word belongs to" (R68). -/
def decodeWord (w : Byte) : Except DecodeError Instr :=
  match (classField w).toNat with
  | 0 => decodeHost w
  | 1 => decodeInternal w
  | 2 => decodePort w
  | _ => .error (.reservedClass w)

/-- Decode the first operation of a byte sequence, with what follows it: "a decoder always reads exactly one 8-bit
word" (R57). -/
def decodeBytes : List Byte → Except DecodeError (Instr × List Byte)
  | [] => .error .noByte
  | w :: rest => (decodeWord w).map fun i => (i, rest)

/-- The bit a level stands for (R23). -/
def Level.bit : Level → BitVec 1
  | .low => 0#1
  | .high => 1#1

/-- The bit a pull stands for (R33, R61). -/
def Pull.bit : Pull → BitVec 1
  | .down => 0#1
  | .up => 1#1

/-- The operation word of an operation (R58, R59, R60). -/
def encode : Instr → Byte
  | .measure => 0x01#8
  | .readTemperature => 0x02#8
  | .readHumidity => 0x03#8
  | .readReading => 0x04#8
  | .idle => 0x40#8
  | .check => 0x41#8
  | .initHigh => 0x42#8
  | .holdHigh => 0x43#8
  | .initLow => 0x44#8
  | .holdLow => 0x45#8
  | .arm => 0x46#8
  | .poll => 0x47#8
  | .release => 0x48#8
  | .finish => 0x49#8
  | .decode => 0x4A#8
  | .validate => 0x4B#8
  | .commit => 0x4C#8
  | .answer => 0x4D#8
  | .gpioSetOutput p => 0b1000000#7 ++ p.bit
  | .gpioSetInput p => 0b1000001#7 ++ p.bit
  | .gpioWrite l => 0b1000010#7 ++ l.bit
  | .gpioRead => 0b10000110#8
  | .timeNow => 0b10001000#8
  | .timeElapsed => 0b10001001#8

/-- The code of a phase: the word of its internal operation (R28, R59). -/
def Phase.word (p : Phase) : Byte := encode p.instr

/-- The code of a host command, the value `cmd` holds (R29, R58). -/
def HostCmd.word (c : HostCmd) : Byte := encode c.instr

/-- The operation word of a port operation (R60). -/
def PortOp.word (op : PortOp) : Byte := encode op.instr

/-- The host command a word names, if it is one of 0x01 to 0x04 (R58, R98). -/
def hostCommandOf (w : Byte) : Option HostCmd :=
  match decodeWord w with
  | .ok i =>
    match i.kind with
    | .host c => some c
    | .internal _ => none
    | .port _ => none
  | .error _ => none

/-- The operation the decoder reads from the table word `w` of `nbits` bits; the one length is 8 bits (R57, R68), and
every bit above `nbits` is 0. -/
def decodeTableWord (nbits w : Nat) : Option Instr :=
  match decodeBytes [BitVec.ofNat 8 (w % 2 ^ nbits)] with
  | .ok (i, _) => some i
  | .error _ => none

end Sys2Proof
end

