-- ==== Sys2Proof/Machine/State.lean ====
section
/-! DEFINITION. What the machine holds (10_state.md), the reasons a step can stop, and the state after reset (R129). -/

namespace Sys2Proof.Machine

/-- One event of the port trace: the operation (its word is `PortEvent.word`), its operand, and the value it returned,
if any (R70 to R76). -/
inductive PortEvent where
  | setOutput (pull : Pull)
  | setInput (pull : Pull)
  | write (level : Level)
  | read (level : Level)
  | now (t : Word)
  | elapsed (since : Word) (e : Word)
deriving DecidableEq, Repr

/-- The three errors of a command, with what each records (R109, R110, R111). -/
inductive SensorError where
  | tooManyPulses
  | wrongPulseCount (expected : Nat) (actual : Nat)
  | invalidChecksum
deriving DecidableEq, Repr

/-- The reasons a step can stop with a fault. The spec gives the block no trap at all (R112, R118): the one fault is
the model's own, for a state no run reaches. -/
inductive Fault where
  /-- Raised by `POLL` alone, when a transition would be recorded at an index outside `cap_buf`: R44 says of such an
  index that it is "not a behaviour of the hardware". Safe: the model stops. No state that meets `State.CaptureInv`
  raises it. Log entry 8. -/
  | captureIndexOutOfRange
deriving DecidableEq, Repr

/-- The reasons for which a step has no meaning. The three after `notModelled` are those of R117, "these, and only
these", for the runs of the block; the last two are U3's, for a port operation issued alone. -/
inductive Refusal where
  /-- An arm of `exec` whose instruction has no meaning yet. No arm says so now. Safe. -/
  | notModelled (mnemonic : String)
  /-- Raised by the step, and by `IDLE`, when the host issues a word other than 0x01 to 0x04 (R67, R117 (1)). Safe. -/
  | reservedHostWord (w : Byte)
  /-- Raised by a host command offered in a phase other than `IDLE` (R116, R117 (2)). Safe. -/
  | commandOutsideIdle (c : HostCmd)
  /-- Raised by the step when an agent other than the block has changed the line's configuration (R34, R117 (3)).
  Safe. -/
  | lineOwnershipBroken
  /-- Raised by a `GPIO_WRITE` issued alone while the line is an input: what it does then "is not stated", and the
  treatment is `refuse` (R73, U3). The block never issues it. Safe. Log entry 12. -/
  | gpioWriteWhileInput
  /-- Raised by a `GPIO_READ` issued alone while the line is an output: what it returns then "is not stated", and the
  treatment is `refuse` (R74, U3). The block never issues it. Safe. Log entry 12. -/
  | gpioReadWhileOutput
deriving DecidableEq, Repr

/-- The state of the block and of the agents around it (R8). Registers of the block first, each with the rule that
names it; then the outputs (the port trace, the responses) and the agents' side: what the host offers, what the line
environment and the time source will answer. -/
structure State where
  /-- The program counter (R28). -/
  phase : Phase
  /-- The command being executed (R29); the register's 8-bit code is `HostCmd.word`. -/
  cmd : HostCmd
  /-- `NoReading` (false) or `Valid` (true) (R30). -/
  rdValid : Bool
  /-- The loop ended on an 85th transition (R31). -/
  capTooMany : Bool
  /-- `LINE_CFG` (R33). -/
  line : LineCfg
  /-- Humidity, integer byte of the cached Reading (R35). -/
  rdHInt : Byte
  /-- Humidity, decimal byte (R35). -/
  rdHDec : Byte
  /-- Temperature, integer byte (R35). -/
  rdTInt : Byte
  /-- Temperature, decimal byte (R35). -/
  rdTDec : Byte
  /-- The time-source value at which the Reading was committed (R35). -/
  rdMeasuredAt : Word
  /-- The tracked level (R36). -/
  capLevel : Level
  /-- Transitions recorded so far (R36: "A model may use unbounded naturals instead"). -/
  capCount : Nat
  /-- Consecutive unchanged polls (R36, R88). -/
  capStall : Nat
  /-- The time-source value at the previous transition (R36). -/
  capLastTs : Word
  /-- The time-source value at the start of the current hold (R36). -/
  holdStart : Word
  /-- The recorded durations (R37). -/
  capBuf : Vector Word Config.nTrans
  /-- The payload (R38). -/
  pl : Vector Byte Config.nBytes
  /-- The port trace, oldest event first (R70). -/
  trace : List PortEvent
  /-- The 72-bit response words delivered so far, oldest first (R62): what the host has received. No rule reads it. -/
  responses : List (BitVec 72)
  /-- The command word the host is offering, if any (R98, R116). -/
  hostIn : Option Byte
  /-- The words of the host's program not yet issued: it issues the next one when the block is in `IDLE` (R52, R69). -/
  hostProgram : List Byte
  /-- An agent other than the block has changed the line's configuration (R34, R117 (3)). -/
  lineTampered : Bool
  /-- A port operation issued alone, as a step of its own; no phase uses it. Log entry 10. -/
  portReq : Option PortOp
  /-- The levels the line environment will answer to the next reads (R77). Log entry 2. -/
  lineScript : List Level
  /-- The number of line reads made so far: the argument of the free level. Log entry 2. -/
  lineReads : Nat
  /-- The advances of the count `T` at the next time reads (R78). Log entry 3. -/
  timeScript : List Nat
  /-- The number of time reads made so far: the argument of the free advance. Log entry 3. -/
  timeReads : Nat
  /-- The unbounded count `T` of microseconds at the last time read (R78). -/
  timeCount : Nat
deriving DecidableEq, Repr

/-- The state after reset (R129): `phase = IDLE`, `rd_valid = 0`, an empty port trace, `LINE_CFG = LINE_RESET_CFG`.
The registers R129 leaves unspecified hold the values of log entries 5 and 6; the count `T` that of log entry 17. -/
def State.reset : State where
  phase := .idle
  cmd := .measure
  rdValid := false
  capTooMany := false
  line := Config.lineResetCfg
  rdHInt := 0#8
  rdHDec := 0#8
  rdTInt := 0#8
  rdTDec := 0#8
  rdMeasuredAt := 0#32
  capLevel := .low
  capCount := 0
  capStall := 0
  capLastTs := 0#32
  holdStart := 0#32
  capBuf := Vector.replicate Config.nTrans 0#32
  pl := Vector.replicate Config.nBytes 0#8
  trace := []
  responses := []
  hostIn := none
  hostProgram := []
  lineTampered := false
  portReq := none
  lineScript := []
  lineReads := 0
  timeScript := []
  timeReads := 0
  timeCount := 0

/-- What the next step performs: who issues it, its operation word, and the state once it has been taken from where
it was offered. -/
structure Fetched where
  source : Source
  word : Byte
  rest : State
deriving DecidableEq, Repr

/-- The three outcomes of a step of this machine. -/
abbrev Outcome := Host.Outcome State Fault Refusal

end Sys2Proof.Machine
end

