-- ==== Sys2Proof/Machine/Ops.lean ====
section
/-! DEFINITION. The operations the meanings share: the draws and the port operations of 40_ports.md, the delivery of a
response (R62), the end of a command by an error (R113), the acceptance of a command (R98), and what the next step
performs. -/

namespace Sys2Proof

/-- `1 - level` (R87): the other level. -/
def Level.toggle : Level → Level
  | .low => .high
  | .high => .low

/-- The bit a direction stands for (R33). -/
def Dir.bit : Dir → BitVec 1
  | .input => 0#1
  | .output => 1#1

/-- The 3-bit view `LINE_CFG`: bit 2 is `line_dir`, bit 1 `line_pull`, bit 0 `line_out` (R33). -/
def LineCfg.view (c : LineCfg) : BitVec 3 := c.dir.bit ++ c.pull.bit ++ c.out.bit

/-- The direction in which a port operation may be issued, if it needs one: `GPIO_WRITE` while the line is an output
(R73), `GPIO_READ` while it is an input (R74). -/
def PortOp.needs : PortOp → Option Dir
  | .setOutput _ => none
  | .setInput _ => none
  | .write _ => some .output
  | .read => some .input
  | .now => none
  | .elapsed => none

/-- The configuration `c` with the direction a port operation needs. -/
def PortOp.prepared (op : PortOp) (c : LineCfg) : LineCfg := ⟨op.needs.getD c.dir, c.pull, c.out⟩

end Sys2Proof

namespace Sys2Proof.Machine

/-- The port operation an event records (R70). -/
def PortEvent.op : PortEvent → PortOp
  | .setOutput p => .setOutput p
  | .setInput p => .setInput p
  | .write l => .write l
  | .read _ => .read
  | .now _ => .now
  | .elapsed _ _ => .elapsed

/-- The word recorded with an event (R70). -/
def PortEvent.word (e : PortEvent) : Byte := e.op.word

/-! ### Control transfer -/

/-- `phase <- P` transfers control to phase `P` (R24, R28). -/
def State.goto (s : State) (p : Phase) : State := { s with phase := p }

/-! ### The line -/

/-- `draw_line()`: what the line environment answers to the next read (R77, log entry 2). -/
def State.drawLevel (s : State) : Level := s.lineScript.headD (Config.freeLevel s.lineReads)

/-- `GPIO_SET_OUTPUT pull` (R71): direction and pull are written together, `line_out` is not changed. -/
def State.setOutput (s : State) (pull : Pull) : State :=
  { s with
    line := ⟨.output, pull, s.line.out⟩
    trace := s.trace ++ [.setOutput pull] }

/-- `GPIO_SET_INPUT pull` (R72): direction and pull are written together, `line_out` is not changed. -/
def State.setInput (s : State) (pull : Pull) : State :=
  { s with
    line := ⟨.input, pull, s.line.out⟩
    trace := s.trace ++ [.setInput pull] }

/-- The effect of `GPIO_WRITE level` (R73). The phases do not test the direction before it: "No rule of the block reads"
`LINE_CFG` (R22), and in every run of the block the line is an output here (log entry 12). -/
def State.writeLine (s : State) (level : Level) : State :=
  { s with
    line := ⟨s.line.dir, s.line.pull, level⟩
    trace := s.trace ++ [.write level] }

/-- The effect of `GPIO_READ` (R74): its result is `s.drawLevel`; this is the state after it. As for `writeLine`, the
phases do not test the direction. -/
def State.readLine (s : State) : State :=
  { s with
    lineScript := s.lineScript.tail
    lineReads := s.lineReads + 1
    trace := s.trace ++ [.read s.drawLevel] }

/-! ### The time source -/

/-- The count `T` at the next time read: it has advanced by a draw that is never negative (R78, log entry 3). -/
def State.drawCount (s : State) : Nat :=
  s.timeCount + s.timeScript.headD (Config.freeAdvance s.timeReads)

/-- `draw_time()`: `T mod 2^32` (R75, R78). -/
def State.drawTime (s : State) : Word := BitVec.ofNat 32 s.drawCount

/-- `(t - since) mod 2^32` (R76): subtraction of 32-bit words wraps. -/
def elapsedTicks (t since : Word) : Word := t - since

/-- `TIME_NOW` (R75): its result is `s.drawTime`; this is the state after it. -/
def State.readTime (s : State) : State :=
  { s with
    timeCount := s.drawCount
    timeScript := s.timeScript.tail
    timeReads := s.timeReads + 1
    trace := s.trace ++ [.now s.drawTime] }

/-- The result `e` of `TIME_ELAPSED since` (R76). -/
def State.drawElapsed (s : State) (since : Word) : Word := elapsedTicks s.drawTime since

/-- `TIME_ELAPSED since` (R76): one time read; its result is `s.drawElapsed since`; this is the state after it. -/
def State.readElapsed (s : State) (since : Word) : State :=
  { s with
    timeCount := s.drawCount
    timeScript := s.timeScript.tail
    timeReads := s.timeReads + 1
    trace := s.trace ++ [.elapsed since (s.drawElapsed since)] }

/-- `hold_start <- t` (R82, R84). -/
def State.startHold (s : State) (t : Word) : State := { s with holdStart := t }

/-! ### Responses and errors -/

/-- The response of a success without a value: status 0x00 (R62). -/
def okWord : BitVec 72 := 0#72

/-- The response of READ_TEMPERATURE and READ_HUMIDITY: `value` in bits [23:8] (R62). -/
def okValueWord (value : BitVec 16) : BitVec 72 := 0#48 ++ value ++ 0x00#8

/-- The response of READ_READING: `temp_tenths` in [23:8], `hum_tenths` in [39:24], `measured_at` in [71:40] (R62). -/
def okReadingWord (tempTenths humTenths : BitVec 16) (measuredAt : Word) : BitVec 72 :=
  measuredAt ++ humTenths ++ tempTenths ++ 0x00#8

/-- The response of an error: its code in [7:0]; for `WrongPulseCount`, `expected` in [15:8] and `actual` in [23:16]
(R62, R109 to R111). -/
def SensorError.word : SensorError → BitVec 72
  | .tooManyPulses => 0#64 ++ 0x01#8
  | .wrongPulseCount expected actual => 0#48 ++ BitVec.ofNat 8 actual ++ BitVec.ofNat 8 expected ++ 0x02#8
  | .invalidChecksum => 0#64 ++ 0x03#8

/-- `respond(resp)` (R24): the current command ends with this response, and the block is back in `IDLE`. -/
def State.respond (s : State) (resp : BitVec 72) : State :=
  { s with
    responses := s.responses ++ [resp]
    phase := .idle }

/-- `raise E(info)` (R113): the error's response is delivered and the block is back in `IDLE`; no other register is
written. What takes the place of an exception's entry; there is no return from it (R119, R120). -/
def State.raise (s : State) (e : SensorError) : State := s.respond e.word

/-! ### The host's side -/

/-- The word offered outright is taken (log entry 13). -/
def State.takeHostIn (s : State) : State := { s with hostIn := none }

/-- The next word of the host's program is taken, `ws` is what is left (log entry 13). -/
def State.takeProgram (s : State) (ws : List Byte) : State := { s with hostProgram := ws }

/-- The lone port operation is taken (log entry 10). -/
def State.takePort (s : State) : State := { s with portReq := none }

/-- Accept a command in `IDLE`: `cmd <- w; phase <- CHECK` (R98). -/
def State.accept (s : State) (c : HostCmd) : State :=
  { s with
    cmd := c
    phase := .check }

/-- A host command: accepted in `IDLE` (R98), refused in every other phase (R116). -/
def offerCommand (c : HostCmd) (s : State) : Outcome :=
  if s.phase = .idle then .next (s.accept c) else .refused (.commandOutsideIdle c)

/-- The word the host offers, with the state once it is taken: a word offered outright in any phase; else, in `IDLE`,
the next word of its program (R52, log entry 9). -/
def State.hostOffer (s : State) : Option (Byte × State) :=
  match s.hostIn with
  | some w => some (w, s.takeHostIn)
  | none =>
    if s.phase = .idle then
      match s.hostProgram with
      | [] => none
      | w :: ws => some (w, s.takeProgram ws)
    else none

/-- What the next step performs: a port operation issued alone (log entry 10); else the word the host offers; else the
internal operation of the phase (R28). -/
def fetch (s : State) : Fetched :=
  match s.portReq with
  | some op => ⟨.block, op.word, s.takePort⟩
  | none =>
    match s.hostOffer with
    | some (w, rest) => ⟨.host, w, rest⟩
    | none => ⟨.block, s.phase.word, s⟩

end Sys2Proof.Machine
end

