-- ==== Sys2Proof/Machine/Flags.lean ====
section
/-! DEFINITION. The two flags of the block, `cap_too_many` (R31) and `rd_valid` (R30), and the writes of the rules that
own them. There are no others (R32). -/

namespace Sys2Proof.Machine

/-- The registers `ARM` sets up: the tracked level, the two counters, and `cap_too_many` cleared (R31, R86). -/
def State.armCapture (s : State) (t : Word) : State :=
  { s with
    capLastTs := t
    capLevel := Config.initLevel
    capCount := 0
    capStall := 0
    capTooMany := false }

/-- `cap_too_many <- 1` on an 85th transition (R31, R87). -/
def State.setTooMany (s : State) : State := { s with capTooMany := true }

/-- The Reading is replaced in one step, and `rd_valid` is set with it (R30, R47, R100). -/
def State.commitReading (s : State) (t : Word) : State :=
  { s with
    rdHInt := s.pl[0]
    rdHDec := s.pl[1]
    rdTInt := s.pl[2]
    rdTDec := s.pl[3]
    rdMeasuredAt := t
    rdValid := true }

end Sys2Proof.Machine
end

