-- ==== Sys2Proof/Machine/Capture.lean ====
section
/-! DEFINITION. The eight phases of PulseCapture (41_capture.md). -/

namespace Sys2Proof.Machine

/-- `INIT_HIGH` (R82). -/
def execInitHigh (s : State) : Outcome :=
  let driven := (s.setOutput .down).writeLine .high
  .next ((driven.readTime.startHold driven.drawTime).goto .holdHigh)

/-- `HOLD_HIGH` (R83): the bound is reached by `>=`. -/
def execHoldHigh (s : State) : Outcome :=
  .next ((s.readElapsed s.holdStart).goto
    (if Config.holdHighUs ≤ (s.drawElapsed s.holdStart).toNat then .initLow else .holdHigh))

/-- `INIT_LOW` (R84). -/
def execInitLow (s : State) : Outcome :=
  let driven := s.writeLine .low
  .next ((driven.readTime.startHold driven.drawTime).goto .holdLow)

/-- `HOLD_LOW` (R85). -/
def execHoldLow (s : State) : Outcome :=
  .next ((s.readElapsed s.holdStart).goto
    (if Config.holdLowUs ≤ (s.drawElapsed s.holdStart).toNat then .arm else .holdLow))

/-- `ARM` (R86). -/
def execArm (s : State) : Outcome :=
  let released := s.setInput .up
  .next ((released.readTime.armCapture released.drawTime).goto .poll)

/-- A transition is recorded at time `t` (R87). -/
def State.recordTransition (s : State) (t : Word) : State :=
  { s with
    capBuf := s.capBuf.setIfInBounds s.capCount (elapsedTicks t s.capLastTs)
    capLastTs := t
    capCount := s.capCount + 1
    capStall := 0
    capLevel := s.capLevel.toggle }

/-- `cap_stall <- cap_stall + 1`: a poll saw no change (R87, R88). -/
def State.countStall (s : State) : State := { s with capStall := s.capStall + 1 }

/-- What `POLL` does with the level `l` and the time `t` it has read (R87). On an unchanged poll the loop ends when
the counter, after its increment, exceeds `STALL_LIMIT` (R88). -/
def State.pollWith (s : State) (l : Level) (t : Word) : State :=
  if l ≠ s.capLevel then
    if s.capCount = Config.nTrans then s.setTooMany.goto .release else (s.recordTransition t).goto .poll
  else s.countStall.goto (if Config.stallLimit < s.countStall.capStall then .release else .poll)

/-- `POLL` (R87): the line is read, then the time (R50). The fault is that of an index outside `cap_buf`, which no
run forms (R44, log entry 8). -/
def execPoll (s : State) : Outcome :=
  if Config.nTrans < s.capCount ∧ s.drawLevel ≠ s.capLevel then .fault .captureIndexOutOfRange
  else .next (s.readLine.readTime.pollWith s.drawLevel s.readLine.drawTime)

/-- `RELEASE` (R90). -/
def execRelease (s : State) : Outcome :=
  .next (((s.setOutput .down).writeLine .low).goto .finish)

/-- `FINISH` (R91). -/
def execFinish (s : State) : Outcome :=
  .next
    (if s.capTooMany = true then s.raise .tooManyPulses
    else if s.capCount ≠ Config.nTrans then s.raise (.wrongPulseCount Config.nTrans s.capCount)
    else s.goto .decode)

end Sys2Proof.Machine
end

