-- ==== Sys2Proof/Machine/Commands.lean ====
section
/-! DEFINITION. The host commands (44_measure.md section 2). The step that runs one is its acceptance; the phases that
follow are steps of their own, and `ANSWER` or an error ends the command (R98, R103). Log entry 1. -/

namespace Sys2Proof.Machine

/-- `MEASURE` (R103). -/
def execMeasure (s : State) : Outcome := offerCommand .measure s

/-- `READ_TEMPERATURE` (R104). -/
def execReadTemperature (s : State) : Outcome := offerCommand .readTemperature s

/-- `READ_HUMIDITY` (R105). -/
def execReadHumidity (s : State) : Outcome := offerCommand .readHumidity s

/-- `READ_READING` (R106). -/
def execReadReading (s : State) : Outcome := offerCommand .readReading s

end Sys2Proof.Machine
end

