-- ==== Sys2Proof/Machine/Operands.lean ====
section
/-! DEFINITION. The operand forms: the `since` register of a lone `TIME_ELAPSED` (R61), the entries of the PulseTrain
(R37, R64, R92), and the value function of a reading (R102). The operand bits of a port word are read by the decoder
(R61). -/

namespace Sys2Proof.Machine

/-- The register that is the `since` operand of `TIME_ELAPSED`: "the 32-bit register the calling rule names
(`hold_start` or `rd_measured_at`)" (R61). `CHECK` names `rd_measured_at` (R99), `HOLD_HIGH` and `HOLD_LOW` name
`hold_start` (R83, R85). In the other phases no rule names one, and the choice is free (log entry 11). -/
def State.sinceOperand (s : State) : Word :=
  match s.phase with
  | .check => s.rdMeasuredAt
  | .holdHigh => s.holdStart
  | .holdLow => s.holdStart
  | .idle | .initHigh | .initLow | .arm | .poll | .release | .finish | .decode | .validate | .commit | .answer =>
    if Config.freeSinceIsHoldStart s.timeReads then s.holdStart else s.rdMeasuredAt

/-- `train[j]` is `cap_buf[j + N_PRE]` (R37); every index the rules form is in range (R44), and the entry of an index
out of range is never read. -/
def trainEntry (buf : Vector Word Config.nTrans) (j : Nat) : Word :=
  (buf[j + Config.nPre]?).getD 0#32

/-- The data entry `d_k = train[DATA_OFFSET + 2k]` (R92). -/
def dataEntry (buf : Vector Word Config.nTrans) (k : Nat) : Word := trainEntry buf (Config.dataOffset + 2 * k)

/-- `tenths(int, dec) = 10 * int + dec` (R102), from 0 to 2805. -/
def tenths (int dec : Byte) : BitVec 16 := BitVec.ofNat 16 (10 * int.toNat + dec.toNat)

end Sys2Proof.Machine
end

