-- ==== Sys2Proof/Machine/Controller.lean ====
section
/-! DEFINITION. The controller's phases `IDLE`, `CHECK`, `COMMIT` and `ANSWER` (44_measure.md section 1). -/

namespace Sys2Proof.Machine

/-- `IDLE` (R98): a host word 0x01 to 0x04 is accepted, any other is refused (R67). With no word offered, the block
"performs no port operation and changes no register". -/
def execIdle (s : State) : Outcome :=
  match s.hostOffer with
  | none => .next s
  | some (w, rest) =>
    match hostCommandOf w with
    | some c => offerCommand c rest
    | none => .refused (.reservedHostWord w)

/-- `CHECK` (R99): a cache hit needs a valid Reading younger than `MIN_INTERVAL_US`; with no Reading no time is
read. -/
def execCheck (s : State) : Outcome :=
  .next
    (if s.rdValid = true then
      (s.readElapsed s.rdMeasuredAt).goto
        (if (s.drawElapsed s.rdMeasuredAt).toNat < Config.minIntervalUs then .answer else .initHigh)
    else s.goto .initHigh)

/-- `COMMIT` (R100). -/
def execCommit (s : State) : Outcome := .next ((s.readTime.commitReading s.drawTime).goto .answer)

/-- The response of a success, chosen by `cmd` (R101). -/
def State.answerWord (s : State) : BitVec 72 :=
  match s.cmd with
  | .measure => okWord
  | .readTemperature => okValueWord (tenths s.rdTInt s.rdTDec)
  | .readHumidity => okValueWord (tenths s.rdHInt s.rdHDec)
  | .readReading => okReadingWord (tenths s.rdTInt s.rdTDec) (tenths s.rdHInt s.rdHDec) s.rdMeasuredAt

/-- `ANSWER` (R101). -/
def execAnswer (s : State) : Outcome := .next (s.respond s.answerWord)

end Sys2Proof.Machine
end

