-- ==== Sys2Proof/Machine/Payload.lean ====
section
/-! DEFINITION. PulseDecoder (42_decode.md) and ChecksumValidator (43_checksum.md). -/

namespace Sys2Proof.Machine

/-- The classification of a duration: 1 if strictly greater than `HIGH_LEVEL_US`, unsigned, on the full 32 bits
(R93). -/
def classify (d : Word) : BitVec 1 := if Config.highLevelUs < d.toNat then 1#1 else 0#1

/-- The bit `b_k` (R92, R93). -/
def payloadBit (buf : Vector Word Config.nTrans) (k : Nat) : BitVec 1 := classify (dataEntry buf k)

/-- `pl[j] = {b[8j], b[8j+1], ..., b[8j+7]}`, most significant bit first (R94, R95). -/
def payloadByte (buf : Vector Word Config.nTrans) (j : Nat) : Byte :=
  payloadBit buf (8 * j) ++ payloadBit buf (8 * j + 1) ++ payloadBit buf (8 * j + 2) ++ payloadBit buf (8 * j + 3) ++
    payloadBit buf (8 * j + 4) ++ payloadBit buf (8 * j + 5) ++ payloadBit buf (8 * j + 6) ++ payloadBit buf (8 * j + 7)

/-- The payload of a capture (R94, R95). -/
def payloadOf (buf : Vector Word Config.nTrans) : Vector Byte Config.nBytes :=
  #v[payloadByte buf 0, payloadByte buf 1, payloadByte buf 2, payloadByte buf 3, payloadByte buf 4]

/-- The five bytes of `pl` are written together (R38, R95). -/
def State.setPayload (s : State) (pl : Vector Byte Config.nBytes) : State := { s with pl := pl }

/-- `DECODE` (R95). -/
def execDecode (s : State) : Outcome := .next ((s.setPayload (payloadOf s.capBuf)).goto .validate)

/-- `sum8(pl) = (pl[0] + pl[1] + pl[2] + pl[3]) mod 256` (R96). -/
def sum8 (pl : Vector Byte Config.nBytes) : Byte :=
  BitVec.ofNat 8 ((pl[0].toNat + pl[1].toNat + pl[2].toNat + pl[3].toNat) % 256)

/-- `VALIDATE` (R97). -/
def execValidate (s : State) : Outcome :=
  .next (if sum8 s.pl = s.pl[4] then s.goto .commit else s.raise .invalidChecksum)

end Sys2Proof.Machine
end

