-- ==== Sys2Proof/Machine/Ports.lean ====
section
/-! DEFINITION. The port operations as operations of their own (40_ports.md), each one line over the shared operation
that the phases use too. -/

namespace Sys2Proof.Machine

/-- `GPIO_SET_OUTPUT pull` (R71). -/
def execGpioSetOutput (pull : Pull) (s : State) : Outcome := .next (s.setOutput pull)

/-- `GPIO_SET_INPUT pull` (R72). -/
def execGpioSetInput (pull : Pull) (s : State) : Outcome := .next (s.setInput pull)

/-- `GPIO_WRITE level` (R73); refused while the line is an input (U3, log entry 12). -/
def execGpioWrite (level : Level) (s : State) : Outcome :=
  if s.line.dir = .output then .next (s.writeLine level) else .refused .gpioWriteWhileInput

/-- `GPIO_READ` (R74); refused while the line is an output (U3, log entry 12). -/
def execGpioRead (s : State) : Outcome :=
  if s.line.dir = .input then .next s.readLine else .refused .gpioReadWhileOutput

/-- `TIME_NOW` (R75). -/
def execTimeNow (s : State) : Outcome := .next s.readTime

/-- `TIME_ELAPSED since` (R76). -/
def execTimeElapsed (s : State) : Outcome := .next (s.readElapsed s.sinceOperand)

end Sys2Proof.Machine
end

