-- ==== Sys2Proof/Machine/Dispatch.lean ====
section
/-! DEFINITION. `exec`: one arm per operation of the opcode table. -/

namespace Sys2Proof.Machine

def exec (i : Instr) (s : State) : Host.Outcome State Fault Refusal :=
  match i with
  -- host commands
  | .measure => Sys2Proof.Machine.execMeasure s
  | .readTemperature => Sys2Proof.Machine.execReadTemperature s
  | .readHumidity => Sys2Proof.Machine.execReadHumidity s
  | .readReading => Sys2Proof.Machine.execReadReading s
  -- internal operations
  | .idle => Sys2Proof.Machine.execIdle s
  | .check => Sys2Proof.Machine.execCheck s
  | .initHigh => Sys2Proof.Machine.execInitHigh s
  | .holdHigh => Sys2Proof.Machine.execHoldHigh s
  | .initLow => Sys2Proof.Machine.execInitLow s
  | .holdLow => Sys2Proof.Machine.execHoldLow s
  | .arm => Sys2Proof.Machine.execArm s
  | .poll => Sys2Proof.Machine.execPoll s
  | .release => Sys2Proof.Machine.execRelease s
  | .finish => Sys2Proof.Machine.execFinish s
  | .decode => Sys2Proof.Machine.execDecode s
  | .validate => Sys2Proof.Machine.execValidate s
  | .commit => Sys2Proof.Machine.execCommit s
  | .answer => Sys2Proof.Machine.execAnswer s
  -- port operations
  | .gpioSetOutput pull => Sys2Proof.Machine.execGpioSetOutput pull s
  | .gpioSetInput pull => Sys2Proof.Machine.execGpioSetInput pull s
  | .gpioWrite level => Sys2Proof.Machine.execGpioWrite level s
  | .gpioRead => Sys2Proof.Machine.execGpioRead s
  | .timeNow => Sys2Proof.Machine.execTimeNow s
  | .timeElapsed => Sys2Proof.Machine.execTimeElapsed s

end Sys2Proof.Machine
end

