-- ==== Sys2Proof/Machine/Step.lean ====
section
/-! DEFINITION. One step of the machine: the fetched operation word is decoded, its issuer checked, and the operation
executed; and the placing of an operation word where the next step fetches it. -/

namespace Sys2Proof.Machine

/-- One step (R8, R28). A run in which another agent has changed the line's configuration has no meaning (R117 (3));
a host word that is no host command is refused (R117 (1)); the refusal of a command outside `IDLE` (R117 (2)) is
that command's own. -/
def step (s : State) : Host.Outcome State Fault Refusal :=
  if s.lineTampered = true then .refused .lineOwnershipBroken
  else
    match decodeWord (fetch s).word with
    | .ok i =>
      if i.wellFormed (fetch s).source = true then exec i (fetch s).rest
      else .refused (.reservedHostWord (fetch s).word)
    | .error _ => .refused (.reservedHostWord (fetch s).word)

/-- The state in which the very next step runs the operation of the table word `w`. A host command word is offered by
the host; an internal word becomes the phase; a port word is issued alone; a word that decodes to nothing is offered
by the host, and the step refuses it. A `GPIO_WRITE` is placed with the line an output and a `GPIO_READ` with it an
input, the only directions in which they are issued (R73, R74, log entry 12). Log entry 9 says how a program comes to
run from `State.reset`. -/
def State.withFetchWord (s : State) (nbits w : Nat) : State :=
  match (decodeTableWord nbits w).map Instr.kind with
  | some (.port op) => { s with lineTampered := false, portReq := some op, line := op.prepared s.line }
  | some (.internal p) =>
    { s with
      lineTampered := false
      portReq := none
      hostIn := none
      hostProgram := if p = .idle then [] else s.hostProgram
      phase := p }
  | some (.host c) => { s with lineTampered := false, portReq := none, hostIn := some c.word }
  | none => { s with lineTampered := false, portReq := none, hostIn := some (BitVec.ofNat 8 (w % 2 ^ nbits)) }

end Sys2Proof.Machine
end

