-- ==== Sys2Proof/Safety.lean ====
section
/-! DEFINITION. The terms the statements use: what a step left unchanged, when the outside interferes with no command,
the invariants of the block, and what of a state its rules can still read. -/

namespace Sys2Proof.Machine

/-! ### Frames: the groups of registers a step leaves unchanged -/

/-- The cached Reading and `rd_valid` (R30, R35). -/
def SameReading (s t : State) : Prop :=
  t.rdValid = s.rdValid ∧ t.rdHInt = s.rdHInt ∧ t.rdHDec = s.rdHDec ∧ t.rdTInt = s.rdTInt ∧ t.rdTDec = s.rdTDec ∧
    t.rdMeasuredAt = s.rdMeasuredAt

/-- The capture registers and `cap_buf`, without `hold_start` (R31, R36, R37). -/
def SameCapture (s t : State) : Prop :=
  t.capTooMany = s.capTooMany ∧ t.capLevel = s.capLevel ∧ t.capCount = s.capCount ∧ t.capStall = s.capStall ∧
    t.capLastTs = s.capLastTs ∧ t.capBuf = s.capBuf

/-- What belongs to the host and to the issue of lone port operations: the words offered and to come, the responses
delivered, the ownership of the line. -/
def SameHost (s t : State) : Prop :=
  t.hostIn = s.hostIn ∧ t.hostProgram = s.hostProgram ∧ t.lineTampered = s.lineTampered ∧ t.portReq = s.portReq

/-- No time read was made (R75, R76). -/
def NoTimeRead (s t : State) : Prop :=
  t.timeScript = s.timeScript ∧ t.timeReads = s.timeReads ∧ t.timeCount = s.timeCount

/-- Exactly one time read was made: the count `T` has moved on to the draw, never back, and the draw is used up
(R78). -/
def OneTimeRead (s t : State) : Prop :=
  t.timeCount = s.drawCount ∧ t.timeScript = s.timeScript.tail ∧ t.timeReads = s.timeReads + 1

/-- No line read was made (R74). -/
def NoLineRead (s t : State) : Prop := t.lineScript = s.lineScript ∧ t.lineReads = s.lineReads

/-- Exactly one line read was made, and its draw is used up (R77). -/
def OneLineRead (s t : State) : Prop := t.lineScript = s.lineScript.tail ∧ t.lineReads = s.lineReads + 1

/-- No port operation at all: the trace, the line's configuration and the draws are as before. -/
def NoPortOperation (s t : State) : Prop :=
  t.trace = s.trace ∧ t.line = s.line ∧ NoTimeRead s t ∧ NoLineRead s t

/-! ### Runs in which nothing interferes -/

/-- Nothing but the block acts: no agent has touched the line (R132), no port operation is issued alone, and the host
offers no word outright (R133). What a host program still holds waits for `IDLE`. -/
def State.Quiet (s : State) : Prop := s.lineTampered = false ∧ s.portReq = none ∧ s.hostIn = none

/-- `t` is what `k` steps make of `s`. -/
def Runs (k : Nat) (s t : State) : Prop := core.run k s = .next t

/-- The status field of a response, bits [7:0] (R62). -/
def statusOf (r : BitVec 72) : Byte := r.extractLsb' 0 8

/-- The duration `cap_buf[5 + 2k]`, the data entry that decides bit `k` (R92: "`cap_buf[5], cap_buf[7], ...,
cap_buf[83]`"). -/
def dataDuration (buf : Vector Word Config.nTrans) (k : Fin 40) : Word :=
  buf[5 + 2 * k.val]'(by have := k.isLt; show _ < 84; omega)

/-! ### The shape of two rules that several operations share -/

/-- The host command of meaning `i` and word `w` is accepted in `IDLE`, as R98 says: `cmd` takes its code, the block
goes to `CHECK`, and nothing else happens. -/
def AcceptedAs (i : Instr) (w : Byte) : Prop :=
  ∀ s : State, s.phase = .idle → ∃ t, exec i s = .next t ∧ t.cmd.word = w ∧ t.phase = .check ∧ SameReading s t ∧
    SameCapture s t ∧ SameHost s t ∧ NoPortOperation s t ∧ t.holdStart = s.holdStart ∧ t.pl = s.pl ∧
    t.responses = s.responses

/-- The hold phase `here` of meaning `i` follows R83 and R85: one `TIME_ELAPSED` on `hold_start`, on to `after` when
the elapsed time has reached `bound`, `here` again otherwise, and nothing but `phase` written. -/
def HoldsFor (i : Instr) (bound : Nat) (here after : Phase) : Prop :=
  ∀ s : State, ∃ (t : State) (e : Word), exec i s = .next t ∧ e = BitVec.ofNat 32 t.timeCount - s.holdStart ∧
    t.trace = s.trace ++ [.elapsed s.holdStart e] ∧ (bound ≤ e.toNat → t.phase = after) ∧
    (e.toNat < bound → t.phase = here) ∧ OneTimeRead s t ∧ NoLineRead s t ∧ t.line = s.line ∧ SameReading s t ∧
    SameCapture s t ∧ SameHost s t ∧ t.cmd = s.cmd ∧ t.holdStart = s.holdStart ∧ t.pl = s.pl ∧
    t.responses = s.responses

/-! ### Invariants -/

/-- The configuration output, pull-down, low: `LINE_CFG = 0b100` (R33, R90). -/
def releasedCfg : LineCfg := ⟨.output, .down, .low⟩

/-- The configuration output, pull-down, high: `LINE_CFG = 0b101` (R33, R82). -/
def drivenHighCfg : LineCfg := ⟨.output, .down, .high⟩

/-- The configuration of the poll loop, input, pull-up, `line_out` kept at 0: `LINE_CFG = 0b010` (R33, R86). -/
def pollingCfg : LineCfg := ⟨.input, .up, .low⟩

/-- The tracked level after `n` recorded transitions: `INIT_LEVEL`, toggled `n` times (R86, R87). -/
def trackedLevel (n : Nat) : Level := if n % 2 = 0 then Config.initLevel else Config.initLevel.toggle

/-- The capture registers and the payload in every state a run reaches (R36, R87, R88, R91, R97, R101, R115). -/
structure State.CaptureInv (s : State) : Prop where
  /-- "`cap_count` never passes `N_TRANS`" (R87). -/
  count_le : s.capCount ≤ Config.nTrans
  /-- "`cap_stall` never passes `STALL_LIMIT + 1`" (R87). -/
  stall_le : s.capStall ≤ Config.stallLimit + 1
  /-- "`cap_too_many = 1` implies `cap_count = N_TRANS`" (R115). -/
  tooMany_count : s.capTooMany = true → s.capCount = Config.nTrans
  /-- While the loop runs, neither of its two ends has come (R87, R88). -/
  polling : s.phase = .poll → s.capTooMany = false ∧ s.capStall ≤ Config.stallLimit
  /-- "the loop ends either on an 85th change or on a stall, never both" (R115). -/
  ended : s.phase = .release ∨ s.phase = .finish →
    (s.capTooMany = true ∧ s.capStall ≤ Config.stallLimit) ∨
      (s.capTooMany = false ∧ s.capStall = Config.stallLimit + 1)
  /-- The tracked level has been toggled once for each recorded transition (R87). -/
  tracked : s.phase = .poll ∨ s.phase = .release ∨ s.phase = .finish → s.capLevel = trackedLevel s.capCount
  /-- "`DECODE` runs only when all 84 were written" (R37, R91). -/
  full : s.phase = .decode ∨ s.phase = .validate ∨ s.phase = .commit →
    s.capTooMany = false ∧ s.capCount = Config.nTrans
  /-- "`COMMIT` is reached only from `VALIDATE` on a passing checksum" (R100). -/
  checked : s.phase = .commit → sum8 s.pl = s.pl[4]
  /-- "`rd_valid = 1` whenever `ANSWER` runs" (R101). -/
  valid : s.phase = .answer → s.rdValid = true

/-- The line's configuration in every state a run reaches (R33): fixed by the phase, and between captures released,
or still `LINE_RESET_CFG` as long as no port operation has been made. -/
structure State.LineInv (s : State) : Prop where
  noPort : s.portReq = none
  drivenHigh : s.phase = .holdHigh ∨ s.phase = .initLow → s.line = drivenHighCfg
  drivenLow : s.phase = .holdLow ∨ s.phase = .arm → s.line = releasedCfg
  polling : s.phase = .poll ∨ s.phase = .release → s.line = pollingCfg
  released : s.phase = .finish ∨ s.phase = .decode ∨ s.phase = .validate ∨ s.phase = .commit → s.line = releasedCfg
  between : s.phase = .idle ∨ s.phase = .check ∨ s.phase = .initHigh ∨ s.phase = .answer →
    (s.trace = [] ∧ s.rdValid = false ∧ s.line = Config.lineResetCfg) ∨ s.line = releasedCfg

/-! ### What the rules can still read -/

/-- `s` with the registers whose reset value R129 leaves unspecified, and `LINE_CFG`, which R22 leaves open, taken from
`g`. -/
def State.withUnspecified (s g : State) : State :=
  { s with
    cmd := g.cmd
    capTooMany := g.capTooMany
    line := g.line
    rdHInt := g.rdHInt
    rdHDec := g.rdHDec
    rdTInt := g.rdTInt
    rdTDec := g.rdTDec
    rdMeasuredAt := g.rdMeasuredAt
    capLevel := g.capLevel
    capCount := g.capCount
    capStall := g.capStall
    capLastTs := g.capLastTs
    holdStart := g.holdStart
    capBuf := g.capBuf
    pl := g.pl }

/-- `a` and `b` agree on everything a rule can read before it is written again (R129). A register that holds no value
in a phase (a working register outside the phases that use it, the Reading while `rd_valid = 0`, an entry of `cap_buf`
that no transition has reached, `cmd` in `IDLE`) may differ, and so may `LINE_CFG`, which "No rule of the block reads"
(R22). Neither state is about to perform a lone port operation. -/
structure AgreeLive (a b : State) : Prop where
  phase : a.phase = b.phase
  rdValid : a.rdValid = b.rdValid
  trace : a.trace = b.trace
  responses : a.responses = b.responses
  hostIn : a.hostIn = b.hostIn
  hostProgram : a.hostProgram = b.hostProgram
  lineTampered : a.lineTampered = b.lineTampered
  noPort : a.portReq = none ∧ b.portReq = none
  lineScript : a.lineScript = b.lineScript
  lineReads : a.lineReads = b.lineReads
  timeScript : a.timeScript = b.timeScript
  timeReads : a.timeReads = b.timeReads
  timeCount : a.timeCount = b.timeCount
  cmd : a.phase ≠ .idle → a.cmd = b.cmd
  reading : a.rdValid = true ∨ a.phase = .answer →
    a.rdHInt = b.rdHInt ∧ a.rdHDec = b.rdHDec ∧ a.rdTInt = b.rdTInt ∧ a.rdTDec = b.rdTDec ∧
      a.rdMeasuredAt = b.rdMeasuredAt
  hold : a.phase = .holdHigh ∨ a.phase = .holdLow → a.holdStart = b.holdStart
  loop : a.phase = .poll →
    a.capLevel = b.capLevel ∧ a.capStall = b.capStall ∧ a.capLastTs = b.capLastTs
  counted : a.phase = .poll ∨ a.phase = .release ∨ a.phase = .finish →
    a.capCount = b.capCount ∧ a.capTooMany = b.capTooMany
  recorded : a.phase = .poll ∨ a.phase = .release ∨ a.phase = .finish →
    ∀ i, i < a.capCount → a.capBuf[i]? = b.capBuf[i]?
  train : a.phase = .decode → a.capBuf = b.capBuf
  payload : a.phase = .validate ∨ a.phase = .commit → a.pl = b.pl

end Sys2Proof.Machine
end

