-- ==== Sys2Proof/Certificates/Slice0/Obligations.lean ====
section
/-! DEFINITION. The statements for the provers. A statement that rests on one of the spec's own decisions (D<n> of
spec/92_eei_decisions.md), on a point it marks "derived", or on one of the model's choices names it here. -/

open Sys2Proof Sys2Proof.Machine

/-! ### Encodings -/

/-- One word of every shape, written out from the tables of R58, R59 and R60 (the codes are the spec's decision D17). -/
def Obligations.WordsDecodeAsTheTablesSay : Prop :=
  decodeWord 0b00000001#8 = .ok .measure ∧ decodeWord 0b00000010#8 = .ok .readTemperature ∧
    decodeWord 0b00000011#8 = .ok .readHumidity ∧ decodeWord 0b00000100#8 = .ok .readReading ∧
    decodeWord 0b01000000#8 = .ok .idle ∧ decodeWord 0b01000111#8 = .ok .poll ∧
    decodeWord 0b01001101#8 = .ok .answer ∧ decodeWord 0b10000000#8 = .ok (.gpioSetOutput .down) ∧
    decodeWord 0b10000011#8 = .ok (.gpioSetInput .up) ∧ decodeWord 0b10000101#8 = .ok (.gpioWrite .high) ∧
    decodeWord 0b10000110#8 = .ok .gpioRead ∧ decodeWord 0b10001001#8 = .ok .timeElapsed

/-- The reserved words of each class, and no others, are rejected, each by the name of its class (R58, R59, R60, R67;
the codes are decision D17). -/
def Obligations.ReservedWordsAreRejectedByName : Prop :=
  ∀ w : Byte,
    (decodeWord w = .error (.reservedHost w) ↔ w.toNat = 0 ∨ 0x05 ≤ w.toNat ∧ w.toNat ≤ 0x3F) ∧
    (decodeWord w = .error (.reservedInternal w) ↔ 0x4E ≤ w.toNat ∧ w.toNat ≤ 0x7F) ∧
    (decodeWord w = .error (.reservedPort w) ↔ w.toNat = 0x87 ∨ 0x8A ≤ w.toNat ∧ w.toNat ≤ 0xBF) ∧
    (decodeWord w = .error (.reservedClass w) ↔ 0xC0 ≤ w.toNat)

/-- Decoding an encoded operation gives it back, whatever bytes follow it, and every word that decodes is the encoding
of what it decodes to: no bit of an encoding is dropped, and each operation has one word (R57 to R61, R68). -/
def Obligations.DecodeAndEncodeAgree : Prop :=
  (∀ (i : Instr) (rest : List Byte), decodeBytes (encode i :: rest) = .ok (i, rest)) ∧
    (∀ (w : Byte) (i : Instr), decodeWord w = .ok i → encode i = w) ∧
    (∀ i : Instr, decodeTableWord 8 (encode i).toNat = some i)

/-- The response words of the three errors, field by field: the code in [7:0], `expected` in [15:8], `actual` in
[23:16], every other bit 0 (R62, R109 to R111; the positions are decision D18, the codes D20). -/
def Obligations.ErrorResponsesCarryTheirFields : Prop :=
  SensorError.tooManyPulses.word.toNat = 1 ∧
    (∀ n : Nat, n ≤ 83 → (SensorError.wrongPulseCount Config.nTrans n).word.toNat = 2 + 84 * 2 ^ 8 + n * 2 ^ 16) ∧
    SensorError.invalidChecksum.word.toNat = 3

/-! ### The step -/

/-- When the fetched word decodes to an operation that its issuer may issue, the step is that operation's meaning at
the state from which the word has been taken. -/
def Obligations.StepRunsTheDecodedOperation : Prop :=
  ∀ (s : State) (i : Instr), s.lineTampered = false → decodeWord (fetch s).word = .ok i →
    i.wellFormed (fetch s).source = true → step s = exec i (fetch s).rest

/-- What is fetched: a lone port operation first (the model's slot, log entry 10); else a word the host offers
outright, in any phase; else, in `IDLE`, the next word of the host's program (log entry 9); else the operation of the
phase (R28, R52, R98). That the fetched word is taken from where it was offered, so that the state fetched with it no
longer offers it, is the model's choice (log entry 13). -/
def Obligations.FetchOrder : Prop :=
  ∀ s : State,
    (∀ op, s.portReq = some op → fetch s = ⟨.block, op.word, s.takePort⟩) ∧
    (∀ w, s.portReq = none → s.hostIn = some w → fetch s = ⟨.host, w, s.takeHostIn⟩) ∧
    (∀ w ws, s.portReq = none → s.hostIn = none → s.phase = .idle → s.hostProgram = w :: ws →
      fetch s = ⟨.host, w, s.takeProgram ws⟩) ∧
    (s.portReq = none → s.hostIn = none → (s.phase ≠ .idle ∨ s.hostProgram = []) →
      fetch s = ⟨.block, s.phase.word, s⟩)

/-- While a command runs undisturbed, each step performs the internal operation the phase names (R28). -/
def Obligations.EachPhaseRunsItsOperation : Prop :=
  ∀ s : State, s.Quiet → s.phase ≠ .idle → step s = exec s.phase.instr s

/-- In `IDLE` the step is what `IDLE`'s own rule says: wait, accept or refuse (R98, R67). -/
def Obligations.IdleStepIsTheIdleRule : Prop :=
  ∀ s : State, s.lineTampered = false → s.portReq = none → s.phase = .idle → step s = exec .idle s

/-- The step refuses exactly in the three cases of R117: the line's configuration changed by another agent, a host
word other than 0x01 to 0x04, a command offered outside `IDLE` (decisions D16, D19). That no phase refuses for the
line's direction, not even in the states, reached by no run of the block, where U3 would, is the model's choice (log
entry 12, DESIGN CHOICE). -/
def Obligations.RefusalsAreThoseOfTheRule : Prop :=
  ∀ s : State, s.portReq = none →
    ((∃ r, step s = .refused r) ↔
      s.lineTampered = true ∨
      (∃ w rest, s.hostOffer = some (w, rest) ∧ (w.toNat = 0 ∨ 4 < w.toNat)) ∨
      (∃ w, s.hostIn = some w ∧ s.phase ≠ .idle))

/-- No state that meets the capture invariant raises the model's one fault, so no run from such a state stops but by a
refusal (R112; that every index the rules form is in range is R44; the fault is log entry 8). -/
def Obligations.NoFaultUnderTheInvariant : Prop :=
  ∀ s : State, s.CaptureInv → ∀ f, step s ≠ .fault f

/-! ### Host commands and the controller's phases -/

/-- R98, R103 to R106: in `IDLE`, each of MEASURE, READ_TEMPERATURE, READ_HUMIDITY and READ_READING is accepted: `cmd`
takes its code and the block goes to `CHECK`, with no port operation and nothing else written. -/
def Obligations.CommandsAreAcceptedInIdle : Prop :=
  AcceptedAs .measure 0x01#8 ∧ AcceptedAs .readTemperature 0x02#8 ∧ AcceptedAs .readHumidity 0x03#8 ∧
    AcceptedAs .readReading 0x04#8

/-- R116 (decision D16): in every other phase each host command is refused. -/
def Obligations.CommandsAreRefusedOutsideIdle : Prop :=
  ∀ (s : State) (c : HostCmd), s.phase ≠ .idle → exec c.instr s = .refused (.commandOutsideIdle c)

/-- R98: with no word offered `IDLE` changes nothing; a word 0x01 to 0x04 is accepted; any other is refused. That the
word is taken from where it was offered is the model's (log entry 13). -/
def Obligations.IdleWaitsAcceptsOrRefuses : Prop :=
  ∀ s : State, s.phase = .idle →
    (s.hostOffer = none → exec .idle s = .next s) ∧
    (∀ (c : HostCmd) (rest : State), s.hostOffer = some (c.word, rest) →
      exec .idle s = .next (rest.accept c)) ∧
    (∀ (w : Byte) (rest : State), s.hostOffer = some (w, rest) → (w.toNat = 0 ∨ 4 < w.toNat) →
      exec .idle s = .refused (.reservedHostWord w))

/-- R99: with no Reading, straight to `INIT_HIGH` with no time read (decision D12); with one, exactly one
`TIME_ELAPSED` on `rd_measured_at`, and a hit when the elapsed time is below 200000 and not otherwise. Nothing but
`phase` changes (decision D38). -/
def Obligations.CheckDecidesOnTheInterval : Prop :=
  ∀ s : State, ∃ t, exec .check s = .next t ∧ SameReading s t ∧ SameCapture s t ∧ SameHost s t ∧ NoLineRead s t ∧
    t.line = s.line ∧ t.cmd = s.cmd ∧ t.holdStart = s.holdStart ∧ t.pl = s.pl ∧ t.responses = s.responses ∧
    (s.rdValid = false → t.phase = .initHigh ∧ t.trace = s.trace ∧ NoTimeRead s t) ∧
    (s.rdValid = true → ∃ e : Word, e = BitVec.ofNat 32 t.timeCount - s.rdMeasuredAt ∧
      t.trace = s.trace ++ [.elapsed s.rdMeasuredAt e] ∧ OneTimeRead s t ∧
      (e.toNat < 200000 → t.phase = .answer) ∧ (200000 ≤ e.toNat → t.phase = .initHigh))

/-- R100, R47: one time read, and the six registers of the Reading replaced in the one step; `pl[4]` is not stored and
nothing else changes. -/
def Obligations.CommitReplacesTheReading : Prop :=
  ∀ s : State, ∃ t, exec .commit s = .next t ∧ t.rdHInt = s.pl[0] ∧ t.rdHDec = s.pl[1] ∧ t.rdTInt = s.pl[2] ∧
    t.rdTDec = s.pl[3] ∧ t.rdMeasuredAt = BitVec.ofNat 32 t.timeCount ∧ t.rdValid = true ∧ t.phase = .answer ∧
    t.trace = s.trace ++ [.now t.rdMeasuredAt] ∧ OneTimeRead s t ∧ NoLineRead s t ∧ SameCapture s t ∧ SameHost s t ∧
    t.line = s.line ∧ t.cmd = s.cmd ∧ t.holdStart = s.holdStart ∧ t.pl = s.pl ∧ t.responses = s.responses

/-- R101, R62, R102: the success response of each command, field by field as a number (decision D14 gives tenths, D18
the positions), and back to `IDLE`; nothing else changes and no port operation is made. -/
def Obligations.AnswerDeliversTheReading : Prop :=
  ∀ s : State, ∃ t r, exec .answer s = .next t ∧ t.responses = s.responses ++ [r] ∧ t.phase = .idle ∧
    (s.cmd = .measure → r.toNat = 0) ∧
    (s.cmd = .readTemperature → r.toNat = (10 * s.rdTInt.toNat + s.rdTDec.toNat) * 2 ^ 8) ∧
    (s.cmd = .readHumidity → r.toNat = (10 * s.rdHInt.toNat + s.rdHDec.toNat) * 2 ^ 8) ∧
    (s.cmd = .readReading → r.toNat = (10 * s.rdTInt.toNat + s.rdTDec.toNat) * 2 ^ 8 +
      (10 * s.rdHInt.toNat + s.rdHDec.toNat) * 2 ^ 24 + s.rdMeasuredAt.toNat * 2 ^ 40) ∧
    SameReading s t ∧ SameCapture s t ∧ SameHost s t ∧ NoPortOperation s t ∧ t.cmd = s.cmd ∧
    t.holdStart = s.holdStart ∧ t.pl = s.pl

/-- R102, R66: the value function is exact, and its range is 0 to 2805. -/
def Obligations.TenthsAreExact : Prop :=
  ∀ int dec : Byte, (tenths int dec).toNat = 10 * int.toNat + dec.toNat ∧ (tenths int dec).toNat ≤ 2805

/-! ### The capture -/

/-- R82: output, pull-down, then high, then the time read that starts the hold, in that order (decisions D9, D10);
nothing else is written. -/
def Obligations.InitHighDrivesHighThenStartsTheHold : Prop :=
  ∀ s : State, ∃ t, exec .initHigh s = .next t ∧ t.line = drivenHighCfg ∧ t.holdStart = BitVec.ofNat 32 t.timeCount ∧
    t.trace = s.trace ++ [.setOutput .down, .write .high, .now t.holdStart] ∧ t.phase = .holdHigh ∧ OneTimeRead s t ∧
    NoLineRead s t ∧ SameReading s t ∧ SameCapture s t ∧ SameHost s t ∧ t.cmd = s.cmd ∧ t.pl = s.pl ∧
    t.responses = s.responses

/-- R83, R85: a hold makes one `TIME_ELAPSED` on `hold_start` and goes on exactly when the elapsed time has reached
its bound, 50000 or 18000, and repeats otherwise (decision D9); nothing but `phase` is written. -/
def Obligations.HoldsEndAtTheirBounds : Prop :=
  HoldsFor .holdHigh 50000 .holdHigh .initLow ∧ HoldsFor .holdLow 18000 .holdLow .arm

/-- R84: `line_out` becomes low with direction and pull as they were, then the hold's time read; where the line is an
output, as in every run of the block, it is driven low. That the phase completes in the same way from a state with the
line an input, where U3 treats a `GPIO_WRITE` as `refuse`, is the model's choice (log entry 12, DESIGN CHOICE). -/
def Obligations.InitLowDrivesLowThenStartsTheHold : Prop :=
  ∀ s : State, ∃ t, exec .initLow s = .next t ∧ t.line = ⟨s.line.dir, s.line.pull, .low⟩ ∧
    t.holdStart = BitVec.ofNat 32 t.timeCount ∧ t.trace = s.trace ++ [.write .low, .now t.holdStart] ∧
    t.phase = .holdLow ∧ OneTimeRead s t ∧ NoLineRead s t ∧ SameReading s t ∧ SameCapture s t ∧ SameHost s t ∧
    t.cmd = s.cmd ∧ t.pl = s.pl ∧ t.responses = s.responses

/-- R86: the line released to the sensor as input with pull-up, one time read, and the loop set up: level high,
counters 0, `cap_too_many` cleared (decisions D5, D6, D8); `cap_buf` is not written. -/
def Obligations.ArmReleasesTheLineAndSetsUpTheLoop : Prop :=
  ∀ s : State, ∃ t, exec .arm s = .next t ∧ t.line = ⟨.input, .up, s.line.out⟩ ∧
    t.capLastTs = BitVec.ofNat 32 t.timeCount ∧ t.trace = s.trace ++ [.setInput .up, .now t.capLastTs] ∧
    t.capLevel = .high ∧ t.capCount = 0 ∧ t.capStall = 0 ∧ t.capTooMany = false ∧ t.phase = .poll ∧ OneTimeRead s t ∧
    NoLineRead s t ∧ t.capBuf = s.capBuf ∧ SameReading s t ∧ SameHost s t ∧ t.cmd = s.cmd ∧
    t.holdStart = s.holdStart ∧ t.pl = s.pl ∧ t.responses = s.responses

/-- R87, R88: one iteration of the polling loop, from every state whose `cap_count` is in its range (R36). The line is
read, then the time (decision D7), once each. A change after `N_TRANS` transitions ends the loop and records nothing;
another change is recorded at `cap_count` with the time since the previous one; an unchanged poll counts, and the
101st in a row ends the loop (decision D4). Nothing outside the capture registers is written. That the phase completes
in the same way from a state with the line an output, where U3 treats a `GPIO_READ` as `refuse` and no run of the block
is in `POLL`, is the model's choice (log entry 12, DESIGN CHOICE). -/
def Obligations.PollIteration : Prop :=
  ∀ s : State, s.capCount ≤ 84 → ∃ (t : State) (l : Level) (now : Word), exec .poll s = .next t ∧
    now = BitVec.ofNat 32 t.timeCount ∧ l = s.drawLevel ∧ t.trace = s.trace ++ [.read l, .now now] ∧
    OneTimeRead s t ∧ OneLineRead s t ∧
    (l ≠ s.capLevel → s.capCount = 84 → t.capTooMany = true ∧ t.phase = .release ∧ t.capLevel = s.capLevel ∧
      t.capCount = s.capCount ∧ t.capStall = s.capStall ∧ t.capLastTs = s.capLastTs ∧ t.capBuf = s.capBuf) ∧
    (l ≠ s.capLevel → s.capCount < 84 → t.phase = .poll ∧ t.capTooMany = s.capTooMany ∧ t.capLevel = l ∧
      t.capCount = s.capCount + 1 ∧ t.capStall = 0 ∧ t.capLastTs = now ∧
      t.capBuf[s.capCount]? = some (now - s.capLastTs) ∧ (∀ i, i ≠ s.capCount → t.capBuf[i]? = s.capBuf[i]?)) ∧
    (l = s.capLevel → t.capStall = s.capStall + 1 ∧ (100 < s.capStall + 1 → t.phase = .release) ∧
      (s.capStall + 1 ≤ 100 → t.phase = .poll) ∧ t.capTooMany = s.capTooMany ∧ t.capLevel = s.capLevel ∧
      t.capCount = s.capCount ∧ t.capLastTs = s.capLastTs ∧ t.capBuf = s.capBuf) ∧
    t.line = s.line ∧ SameReading s t ∧ SameHost s t ∧ t.cmd = s.cmd ∧ t.holdStart = s.holdStart ∧ t.pl = s.pl ∧
    t.responses = s.responses

/-- R90: the line restored to output, pull-down, low, from every configuration, by two operations in that order
(decision D10); nothing else is written. -/
def Obligations.ReleaseRestoresTheLine : Prop :=
  ∀ s : State, ∃ t, exec .release s = .next t ∧ t.line.view = 0b100#3 ∧
    t.trace = s.trace ++ [.setOutput .down, .write .low] ∧ t.phase = .finish ∧ NoTimeRead s t ∧ NoLineRead s t ∧
    SameReading s t ∧ SameCapture s t ∧ SameHost s t ∧ t.cmd = s.cmd ∧ t.holdStart = s.holdStart ∧ t.pl = s.pl ∧
    t.responses = s.responses

/-- R91, R109, R110, R113: `TooManyPulses` if the loop ended on an 85th transition, else `WrongPulseCount` with the
count if it is not 84, else on to `DECODE` with no response. An error's response ends the command in `IDLE`, and no
other register is written on any of the three ways. -/
def Obligations.FinishChecksTheCount : Prop :=
  ∀ s : State, ∃ t, exec .finish s = .next t ∧
    (s.capTooMany = true → t.phase = .idle ∧ t.responses = s.responses ++ [SensorError.tooManyPulses.word]) ∧
    (s.capTooMany = false → s.capCount ≠ 84 →
      t.phase = .idle ∧ t.responses = s.responses ++ [(SensorError.wrongPulseCount 84 s.capCount).word]) ∧
    (s.capTooMany = false → s.capCount = 84 → t.phase = .decode ∧ t.responses = s.responses) ∧
    SameReading s t ∧ SameCapture s t ∧ SameHost s t ∧ NoPortOperation s t ∧ t.cmd = s.cmd ∧
    t.holdStart = s.holdStart ∧ t.pl = s.pl

/-- R115, R91: from a state that meets the invariant, `FINISH` completes and meets exactly one of its three cases, and
what it answers tells which. `TooManyPulses` exactly when the loop ended on an 85th change, with the count at 84 and no
stall; `WrongPulseCount` with the count exactly when it ended on a stall with fewer than 84 transitions; on to `DECODE`
with no response exactly when it ended on a stall with 84. One of the three ends always holds, so no other answer is
possible, and "the errors cannot coincide". -/
def Obligations.CaptureErrorsExcludeEachOther : Prop :=
  ∀ s : State, s.CaptureInv → s.phase = .finish → ∃ t, exec .finish s = .next t ∧
    (t.responses = s.responses ++ [SensorError.tooManyPulses.word] ↔
      s.capTooMany = true ∧ s.capCount = 84 ∧ s.capStall ≤ 100) ∧
    (t.responses = s.responses ++ [(SensorError.wrongPulseCount 84 s.capCount).word] ↔
      s.capTooMany = false ∧ s.capCount < 84 ∧ s.capStall = 101) ∧
    (t.responses = s.responses ↔ s.capTooMany = false ∧ s.capCount = 84 ∧ s.capStall = 101) ∧
    (t.responses = s.responses ↔ t.phase = .decode) ∧
    (t.responses = s.responses ∨ t.responses = s.responses ++ [SensorError.tooManyPulses.word] ∨
      t.responses = s.responses ++ [(SensorError.wrongPulseCount 84 s.capCount).word])

/-! ### Decoder and checksum -/

/-- R93: the classification of a duration, strict and unsigned on the full 32 bits, with the rule's own values. -/
def Obligations.ClassificationIsStrictlyAboveTheThreshold : Prop :=
  (∀ d : Word, (50 < d.toNat → classify d = 1#1) ∧ (d.toNat ≤ 50 → classify d = 0#1)) ∧ classify 50#32 = 0#1 ∧
    classify 51#32 = 1#1 ∧ classify 0#32 = 0#1 ∧ classify 0xFFFFFFFF#32 = 1#1

/-- R92, R94, R95: `DECODE` completes from every state and writes `pl` and `phase` alone. Bit `7 - i` of `pl[j]` is
whether the data entry of bit `8j + i`, `cap_buf[5 + 2(8j + i)]`, exceeds 50. -/
def Obligations.DecodePacksMostSignificantBitFirst : Prop :=
  ∀ s : State, ∃ t, exec .decode s = .next t ∧ t.phase = .validate ∧
    (∀ (j : Fin 5) (i : Fin 8), t.pl[j].getLsbD (7 - i.val) =
      decide (50 < (dataDuration s.capBuf ⟨8 * j.val + i.val, by omega⟩).toNat)) ∧
    SameReading s t ∧ SameCapture s t ∧ SameHost s t ∧ NoPortOperation s t ∧ t.cmd = s.cmd ∧
    t.holdStart = s.holdStart ∧ t.responses = s.responses

/-- R94: the packing as sums: each byte is the sum of its bits' weights, and the 40-bit value `P` of which the bytes
are the parts is the sum of all 40. So `b_(8j+i)` is bit `7 - i` of `pl[j]`: `b_0` is bit 7 of `pl[0]` and `b_39` bit 0
of `pl[4]`. -/
def Obligations.PayloadBytesAreTheSumsOfTheirBits : Prop :=
  ∀ buf : Vector Word Config.nTrans,
    (∀ j : Fin 5, (payloadOf buf)[j].toNat =
      ∑ i ∈ Finset.range 8, (payloadBit buf (8 * j.val + i)).toNat * 2 ^ (7 - i)) ∧
    ((payloadOf buf)[0] ++ (payloadOf buf)[1] ++ (payloadOf buf)[2] ++ (payloadOf buf)[3] ++
        (payloadOf buf)[4]).toNat =
      ∑ k ∈ Finset.range 40, (payloadBit buf k).toNat * 2 ^ (39 - k) ∧
    ∀ (j : Fin 5) (i : Fin 8), (payloadOf buf)[j].getLsbD (7 - i.val) =
      (payloadBit buf (8 * j.val + i.val)).getLsbD 0

/-- R92, R95: the payload depends on the 40 data entries alone, and on each only by the side of 50 it is on: changing
sync entries or any of `cap_buf[0 .. 3]` changes nothing. -/
def Obligations.DecodeIgnoresSyncEntries : Prop :=
  ∀ a b : Vector Word Config.nTrans,
    (∀ k : Fin 40, 50 < (dataDuration a k).toNat ↔ 50 < (dataDuration b k).toNat) →
    payloadOf a = payloadOf b

/-- R96: the sum is that of the first four bytes, from 0 to 1020, reduced modulo 256, and the fifth byte is no part of
it. -/
def Obligations.ChecksumIsTheSumModulo256 : Prop :=
  ∀ pl : Vector Byte Config.nBytes,
    (sum8 pl).toNat = (pl[0].toNat + pl[1].toNat + pl[2].toNat + pl[3].toNat) % 256 ∧
    pl[0].toNat + pl[1].toNat + pl[2].toNat + pl[3].toNat ≤ 1020 ∧
    ∀ b : Byte, sum8 (pl.set 4 b) = sum8 pl

/-- R97, R111, R113: `VALIDATE` passes to `COMMIT` exactly when the fifth byte is the sum modulo 256, and otherwise
ends the command with `InvalidChecksum`; no other register is written either way, the payload and the Reading among
them. For every choice of the first four bytes exactly one fifth byte passes; the all-zero payload passes, and four
bytes 0xFF pass only with 0xFC. -/
def Obligations.ValidateAcceptsExactlyTheRightChecksum : Prop :=
  (∀ s : State, ∃ t, exec .validate s = .next t ∧
    ((s.pl[0].toNat + s.pl[1].toNat + s.pl[2].toNat + s.pl[3].toNat) % 256 = s.pl[4].toNat →
      t.phase = .commit ∧ t.responses = s.responses) ∧
    ((s.pl[0].toNat + s.pl[1].toNat + s.pl[2].toNat + s.pl[3].toNat) % 256 ≠ s.pl[4].toNat →
      t.phase = .idle ∧ t.responses = s.responses ++ [SensorError.invalidChecksum.word]) ∧
    SameReading s t ∧ SameCapture s t ∧ SameHost s t ∧ NoPortOperation s t ∧ t.cmd = s.cmd ∧
    t.holdStart = s.holdStart ∧ t.pl = s.pl) ∧
  (∀ a b c d : Byte, ∃! e : Byte, sum8 #v[a, b, c, d, e] = e) ∧
  sum8 #v[0, 0, 0, 0, 0] = 0 ∧
  (∀ e : Byte, sum8 #v[0xFF, 0xFF, 0xFF, 0xFF, e] = e ↔ e = 0xFC)

/-- R138 (C4): a train whose data entries all last 50 µs or less decodes to the all-zero payload and passes the
checksum: after `DECODE` and `VALIDATE` the block is about to commit humidity 0 and temperature 0. -/
def Obligations.AllShortTrainPassesTheChecksum : Prop :=
  ∀ s : State, s.Quiet → s.phase = .decode →
    (∀ k : Fin 40, (dataDuration s.capBuf k).toNat ≤ 50) →
    ∃ t, Runs 2 s t ∧ t.phase = .commit ∧ t.pl = #v[0, 0, 0, 0, 0]

/-! ### Port operations -/

/-- R71, R72: direction and pull are written together, for both pulls; `line_out` and every register are unchanged. -/
def Obligations.SettingTheDirectionKeepsTheDrivenLevel : Prop :=
  ∀ (s : State) (p : Pull),
    (∃ t, exec (.gpioSetOutput p) s = .next t ∧ t.line = ⟨.output, p, s.line.out⟩ ∧
      t.trace = s.trace ++ [.setOutput p] ∧ NoTimeRead s t ∧ NoLineRead s t ∧ SameReading s t ∧ SameCapture s t ∧
      SameHost s t ∧ t.phase = s.phase ∧ t.cmd = s.cmd ∧ t.holdStart = s.holdStart ∧ t.pl = s.pl ∧
      t.responses = s.responses) ∧
    (∃ t, exec (.gpioSetInput p) s = .next t ∧ t.line = ⟨.input, p, s.line.out⟩ ∧
      t.trace = s.trace ++ [.setInput p] ∧ NoTimeRead s t ∧ NoLineRead s t ∧ SameReading s t ∧ SameCapture s t ∧
      SameHost s t ∧ t.phase = s.phase ∧ t.cmd = s.cmd ∧ t.holdStart = s.holdStart ∧ t.pl = s.pl ∧
      t.responses = s.responses)

/-- R73, U3: while the line is an output the driven level is written, direction and pull and every register unchanged;
while it is an input the operation, issued alone, is refused, as 93_implementation_defined.md U3 treats it (log entry
12). -/
def Obligations.WritingTheLineSetsTheDrivenLevel : Prop :=
  ∀ (s : State) (l : Level),
    (s.line.dir = .output → ∃ t, exec (.gpioWrite l) s = .next t ∧ t.line = ⟨.output, s.line.pull, l⟩ ∧
      t.trace = s.trace ++ [.write l] ∧ NoTimeRead s t ∧ NoLineRead s t ∧ SameReading s t ∧ SameCapture s t ∧
      SameHost s t ∧ t.phase = s.phase ∧ t.cmd = s.cmd ∧ t.holdStart = s.holdStart ∧ t.pl = s.pl ∧
      t.responses = s.responses) ∧
    (s.line.dir = .input → exec (.gpioWrite l) s = .refused .gpioWriteWhileInput)

/-- R74, R75, R76, R46: a line read (while the line is an input), a time read and an elapsed read each draw once, append
their event with the value returned, and change no register and no configuration. The time is the count `T` modulo
2^32; the elapsed time is the difference modulo 2^32 from a 32-bit register, which R61 says "the calling rule names".
Which register a `TIME_ELAPSED` issued alone takes in each phase is the model's choice (log entry 11). That a
`GPIO_READ` issued alone while the line is an output is refused is U3's treatment (log entry 12). -/
def Obligations.ReadsDrawOnceAndChangeNoRegister : Prop :=
  ∀ s : State,
    (s.line.dir = .output → exec .gpioRead s = .refused .gpioReadWhileOutput) ∧
    ∀ i ∈ [Instr.gpioRead, .timeNow, .timeElapsed], (i = .gpioRead → s.line.dir = .input) →
      ∃ (t : State) (ev : PortEvent), exec i s = .next t ∧ t.trace = s.trace ++ [ev] ∧ SameReading s t ∧
        SameCapture s t ∧ SameHost s t ∧ t.line = s.line ∧ t.phase = s.phase ∧ t.cmd = s.cmd ∧
        t.holdStart = s.holdStart ∧ t.pl = s.pl ∧ t.responses = s.responses ∧
        (i = .gpioRead → ev = .read s.drawLevel ∧ OneLineRead s t ∧ NoTimeRead s t) ∧
        (i = .timeNow → ev = .now (BitVec.ofNat 32 t.timeCount) ∧ OneTimeRead s t ∧ NoLineRead s t) ∧
        (i = .timeElapsed → OneTimeRead s t ∧ NoLineRead s t ∧
          ∃ since : Word, ev = .elapsed since (BitVec.ofNat 32 t.timeCount - since) ∧
            (s.phase = .check → since = s.rdMeasuredAt) ∧
            (s.phase = .holdHigh ∨ s.phase = .holdLow → since = s.holdStart) ∧
            (since = s.rdMeasuredAt ∨ since = s.holdStart))

/-- R76, R63: the elapsed time is right across a wrap of the 32-bit counter. When the count was `T` and is now
`T + d`, the subtraction of the two 32-bit values gives `d` modulo 2^32. -/
def Obligations.ElapsedIsCorrectUnderWraparound : Prop :=
  ∀ T d : Nat, (elapsedTicks (BitVec.ofNat 32 (T + d)) (BitVec.ofNat 32 T)).toNat = d % 2 ^ 32

/-- R70, R60: the event each port operation appends carries that operation's word. -/
def Obligations.EventsCarryTheirOperationsWord : Prop :=
  ∀ (s t : State) (op : PortOp), exec op.instr s = .next t →
    ∃ ev : PortEvent, t.trace = s.trace ++ [ev] ∧ ev.word = encode op.instr

/-! ### The whole machine -/

/-- R129: the values the spec gives for reset: `IDLE`, no Reading, an empty trace, and the line at the open parameter
`LINE_RESET_CFG`. -/
def Obligations.ResetStateIsAsTheSpecGivesIt : Prop :=
  State.reset.phase = .idle ∧ State.reset.rdValid = false ∧ State.reset.trace = [] ∧
    State.reset.line = Config.lineResetCfg

/-- The capture invariant holds at reset. The spec gives `phase` and `rd_valid` there (R129); `cap_count`, `cap_stall`
and `cap_too_many` it leaves unspecified, and that they meet the invariant's bounds at reset rests on the zeros the
model chose for them (log entry 5, DESIGN CHOICE). -/
def Obligations.CaptureInvariantHoldsAtReset : Prop := State.reset.CaptureInv

/-- Every step keeps the capture invariant, from every state that meets it, not only along runs from reset (R36, R37,
R87, R91, R100, R101, R115). -/
def Obligations.CaptureInvariantIsKept : Prop :=
  ∀ s t : State, s.CaptureInv → step s = .next t → t.CaptureInv

/-- The invariant of the line's configuration holds at reset, whatever `LINE_RESET_CFG` is (R129). That no lone port
operation waits there is of the model's own slot (log entry 10). -/
def Obligations.LineInvariantHoldsAtReset : Prop := State.reset.LineInv

/-- R33: every step keeps the invariant of the line's configuration: after the first capture has begun, the line is in
the configuration its phase has, and between captures output, pull-down, low. -/
def Obligations.LineInvariantIsKept : Prop :=
  ∀ s t : State, s.LineInv → step s = .next t → t.LineInv

/-- R60, R73, R74, R50: from a state that meets the line's invariant, a step only appends to the trace, and only port
operations the rules issue, in the order of the phase's rule: never `GPIO_SET_OUTPUT` with pull-up or `GPIO_SET_INPUT`
with pull-down, a `GPIO_WRITE` only in a step that has the line an output, and a `GPIO_READ` only while the line is an
input with pull-up. So the two cases that U3 refuses never come up in a phase. -/
def Obligations.BlockIssuesOnlyTheOperationsOfItsRules : Prop :=
  ∀ s t : State, s.LineInv → step s = .next t →
    ∃ evs : List PortEvent, t.trace = s.trace ++ evs ∧ (∀ ev ∈ evs, ev.op.issuedByRules = true) ∧
      (∀ l, PortEvent.write l ∈ evs → t.line.dir = .output ∧
        (s.line.dir = .output ∨ evs.head? = some (.setOutput .down))) ∧
      (∀ l, PortEvent.read l ∈ evs → s.phase = .poll ∧ s.line.dir = .input ∧ s.line.pull = .up) ∧
      (s.phase = .idle ∨ s.phase = .finish ∨ s.phase = .decode ∨ s.phase = .validate ∨ s.phase = .answer → evs = [])

/-- R78 (decisions D26, D37): over every step the count `T` never goes back, and the event of a `TIME_NOW` made in the
step is `T` modulo 2^32. -/
def Obligations.TimeNeverStepsBack : Prop :=
  ∀ s t : State, step s = .next t → s.timeCount ≤ t.timeCount ∧
    ∀ evs : List PortEvent, t.trace = s.trace ++ evs → ∀ w, PortEvent.now w ∈ evs → w = BitVec.ofNat 32 t.timeCount

/-- R107: the transitions of `phase`, and no others: from each phase a step that goes on leads only to a phase of the
table. Staying in `IDLE` is waiting for a command (R98). -/
def Obligations.PhaseTransitionsAreThoseOfTheTable : Prop :=
  ∀ s t : State, s.portReq = none → step s = .next t →
    (s.phase, t.phase) ∈ [(Phase.idle, Phase.idle), (.idle, .check), (.check, .answer), (.check, .initHigh),
      (.initHigh, .holdHigh), (.holdHigh, .holdHigh), (.holdHigh, .initLow), (.initLow, .holdLow), (.holdLow, .holdLow),
      (.holdLow, .arm), (.arm, .poll), (.poll, .poll), (.poll, .release), (.release, .finish), (.finish, .idle),
      (.finish, .decode), (.decode, .validate), (.validate, .idle), (.validate, .commit), (.commit, .answer),
      (.answer, .idle)]

/-- R30, R35, R108: no step but `COMMIT`'s changes the Reading, and none clears `rd_valid`. -/
def Obligations.OnlyCommitChangesTheReading : Prop :=
  ∀ s t : State, step s = .next t →
    (SameReading s t ∨ (s.phase = .commit ∧ t.rdValid = true ∧ t.rdHInt = s.pl[0] ∧ t.rdHDec = s.pl[1] ∧
      t.rdTInt = s.pl[2] ∧ t.rdTDec = s.pl[3] ∧ t.rdMeasuredAt = BitVec.ofNat 32 t.timeCount)) ∧
    (s.rdValid = true → t.rdValid = true)

/-- R52: a response is delivered exactly when the block returns to `IDLE` from another phase, one at a time, and a
response once delivered stays as it was. -/
def Obligations.OneResponsePerReturnToIdle : Prop :=
  ∀ s t : State, s.portReq = none → step s = .next t →
    (s.phase ≠ .idle → t.phase = .idle → ∃ r, t.responses = s.responses ++ [r]) ∧
    (s.phase = .idle ∨ t.phase ≠ .idle → t.responses = s.responses)

/-- R114: when an error response is delivered, the line is output, pull-down, low, and of the block's registers only
`phase` has changed in that step. -/
def Obligations.ErrorsLeaveTheLineReleased : Prop :=
  ∀ (s t : State) (r : BitVec 72), s.LineInv → step s = .next t → t.responses = s.responses ++ [r] →
    statusOf r ≠ 0x00#8 →
    t.line.view = 0b100#3 ∧ t.phase = .idle ∧ SameReading s t ∧ SameCapture s t ∧ NoPortOperation s t ∧
      t.cmd = s.cmd ∧ t.holdStart = s.holdStart ∧ t.pl = s.pl

/-- R113, R103, R104: a command that ends in an error leaves the cached Reading, `rd_valid` and its timestamp exactly
as they were: from any state in which the command is being executed, the one in which it was accepted among them, over
any number of steps to the state in `IDLE` in which its response, an error, is the only one that has been added. -/
def Obligations.FailedCommandLeavesTheReading : Prop :=
  ∀ (s t : State) (k : Nat) (r : BitVec 72), s.portReq = none → s.phase ≠ .idle → Runs k s t → t.phase = .idle →
    t.responses = s.responses ++ [r] → statusOf r ≠ 0x00#8 → SameReading s t

/-- R99, R103 to R106, R139: a command offered in `IDLE`, outright or as the next word of the host's program, with a
Reading younger than 200000 µs is answered in three steps, from the cache: one `TIME_ELAPSED` event and no line
operation, the Reading unchanged, and the response the one `ANSWER` gives for the command. What the host still offers
afterwards is what it offered besides (log entries 9 and 13). -/
def Obligations.CacheHitAnswersFromTheReading : Prop :=
  ∀ (s rest : State) (c : HostCmd), s.lineTampered = false → s.portReq = none → s.phase = .idle →
    s.hostOffer = some (c.word, rest) → s.rdValid = true → (s.drawElapsed s.rdMeasuredAt).toNat < 200000 →
    ∃ t, Runs 3 s t ∧ t.phase = .idle ∧ SameReading s t ∧ SameCapture s t ∧ t.line = s.line ∧
      t.trace = s.trace ++ [.elapsed s.rdMeasuredAt (s.drawElapsed s.rdMeasuredAt)] ∧
      t.responses = s.responses ++ [(s.accept c).answerWord] ∧ SameHost rest t

/-- R95, R97, R100, R101, R103 to R106: a complete capture whose payload has the right checksum is committed and
answered in four steps: the Reading becomes the payload's four data bytes with the time of the one time read, the line
is not touched, and the response is the one `ANSWER` gives for the command with the new Reading. -/
def Obligations.ValidCaptureIsCommittedAndAnswered : Prop :=
  ∀ s : State, s.Quiet → s.phase = .decode → sum8 (payloadOf s.capBuf) = (payloadOf s.capBuf)[4] →
    ∃ t, Runs 4 s t ∧ t.phase = .idle ∧ t.rdValid = true ∧ t.rdHInt = (payloadOf s.capBuf)[0] ∧
      t.rdHDec = (payloadOf s.capBuf)[1] ∧ t.rdTInt = (payloadOf s.capBuf)[2] ∧ t.rdTDec = (payloadOf s.capBuf)[3] ∧
      t.rdMeasuredAt = BitVec.ofNat 32 t.timeCount ∧ t.trace = s.trace ++ [.now t.rdMeasuredAt] ∧ OneTimeRead s t ∧
      NoLineRead s t ∧ t.line = s.line ∧ t.responses = s.responses ++ [t.answerWord] ∧ t.cmd = s.cmd

/-- R130: with no Reading, whatever the line's configuration, the first three steps of a command offered in `IDLE`,
outright or as the next word of the host's program, are its acceptance, a `CHECK` with no time read and `INIT_HIGH`: the
first port events are `GPIO_SET_OUTPUT down`, `GPIO_WRITE 1` and the hold's `TIME_NOW`. What the host still offers
afterwards is what it offered besides (log entries 9 and 13). -/
def Obligations.FirstCommandAlwaysCaptures : Prop :=
  ∀ (s rest : State) (c : HostCmd), s.lineTampered = false → s.portReq = none → s.phase = .idle →
    s.hostOffer = some (c.word, rest) → s.rdValid = false →
    ∃ t, Runs 3 s t ∧ t.phase = .holdHigh ∧ t.cmd = c ∧ t.line = drivenHighCfg ∧ t.responses = s.responses ∧
      t.trace = s.trace ++ [.setOutput .down, .write .high, .now t.holdStart] ∧ SameHost rest t

/-- R89 (derived), R88: the capture loop always ends, within 8585 polls, for every sequence of line and time draws. That
`POLL` goes on from a state with the line an output too, in which no run of the block is in `POLL`, is the model's
choice (log entry 12, DESIGN CHOICE). -/
def Obligations.PollLoopEndsWithin8585Polls : Prop :=
  ∀ s : State, s.Quiet → s.CaptureInv → s.phase = .poll →
    ∃ (k : Nat) (t : State), k ≤ 8585 ∧ Runs k s t ∧ t.phase = .release ∧
      (∀ j u, j < k → Runs j s u → u.phase = .poll)

/-- R89, R137 (derived): once the capture loop is set up, the command is answered with exactly one response within 8592
steps, for every sequence of draws, with no premise on the time source: `ARM`, at most 8585 polls, and at most six
phases more. -/
def Obligations.ArmedCaptureIsAlwaysAnswered : Prop :=
  ∀ s : State, s.Quiet → s.phase = .arm →
    ∃ (k : Nat) (t : State) (r : BitVec 72), k ≤ 8592 ∧ Runs k s t ∧ t.phase = .idle ∧
      t.responses = s.responses ++ [r] ∧ (statusOf r = 0x00#8 → t.rdValid = true)

/-- R83, R85, R141, R144 (derived): from the `TIME_NOW` of `INIT_HIGH` until the capture loop has been entered, the time
source has counted at least 68000 µs. -/
def Obligations.InitializationSignalLasts68000Microseconds : Prop :=
  ∀ (s u t : State) (k : Nat), s.portReq = none → s.phase = .initHigh → step s = .next u → Runs k u t →
    t.phase = .poll → u.timeCount + 68000 ≤ t.timeCount

/-- R137 (derived): a hold can hang, either of them. For every number of steps there is an environment, one whose time
source does not advance, in which `HOLD_HIGH`, or `HOLD_LOW`, still repeats after them, with no response delivered. -/
def Obligations.HoldHangsWhileTimeStandsStill : Prop :=
  ∀ (s : State) (n : Nat), s.Quiet → (s.phase = .holdHigh ∨ s.phase = .holdLow) →
    s.holdStart = BitVec.ofNat 32 s.timeCount → s.timeScript = List.replicate n 0 →
    ∃ t, Runs n s t ∧ t.phase = s.phase ∧ t.responses = s.responses

/-- R143, R136: when the Reading was committed at the count `T`, a `CHECK` that starts a capture does so no sooner than
200000 µs after it, as the time source counts. Only a Reading protects the interval: without one a capture starts at
once. -/
def Obligations.NoCaptureWithinTheMinimumInterval : Prop :=
  ∀ (s t : State) (T : Nat), s.rdMeasuredAt = BitVec.ofNat 32 T → T ≤ s.timeCount → exec .check s = .next t →
    t.phase = .initHigh → (s.rdValid = true → T + 200000 ≤ t.timeCount) ∧ (s.rdValid = false → t.timeCount = s.timeCount)

/-- R135 (derived): the interval check cannot see whole turns of the 32-bit counter. When the Reading was committed at
the count `T` and the next time read finds `T + m * 2^32 + r` with `r` below 200000, `CHECK` answers from the
cache. -/
def Obligations.IntervalCheckIsBlindToWholeTurns : Prop :=
  ∀ (s : State) (T m r : Nat), s.rdValid = true → s.rdMeasuredAt = BitVec.ofNat 32 T → r < 200000 →
    s.drawCount = T + m * 2 ^ 32 + r → ∃ t, exec .check s = .next t ∧ t.phase = .answer

/-- R129: no rule reads a register before writing it. Two states that agree on everything a rule can still read take
the same step: both go on, to states that agree again, with the same trace and the same responses, or both stop, for
the same reason. So neither the values the model gives to the registers that R129 leaves unspecified (log entries 5
and 6) nor `LINE_RESET_CFG` (R22) reach anything the host or the environment observes. That the phases do not test the
line's direction, in states that no run of the block reaches too, is the model's choice (log entry 12, DESIGN
CHOICE). -/
def Obligations.UnspecifiedRegistersAreNeverRead : Prop :=
  ∀ a b : State, AgreeLive a b →
    (∀ a', step a = .next a' → ∃ b', step b = .next b' ∧ AgreeLive a' b') ∧
    (∀ r, step a = .refused r → step b = .refused r) ∧ (∀ f, step a = .fault f → step b = .fault f)

/-- R129, R22, for whole runs from a state as reset leaves it: whatever values `LINE_CFG` and the registers R129 leaves
unspecified hold when the block comes up (those of `g`), every run goes the same way as far as the host and the
environment can see: the same port trace, the same responses, the same phase. -/
def Obligations.ResetGarbageIsNeverObserved : Prop :=
  ∀ (s g t : State) (n : Nat), s.phase = .idle → s.rdValid = false → s.portReq = none → Runs n s t →
    ∃ u, Runs n (s.withUnspecified g) u ∧ u.trace = t.trace ∧ u.responses = t.responses ∧ u.phase = t.phase
end

