-- ==== Sys2Proof/Laws/State.lean ====
section
/-! SUPPORT. What each field of the state is after each named update of it: one lemma per field per update. -/

namespace Sys2Proof.Machine.State

variable (s : State)

/-! ### `goto` -/

@[simp] theorem goto_phase (p : Phase) : (s.goto p).phase = p := rfl
@[simp] theorem goto_cmd (p : Phase) : (s.goto p).cmd = s.cmd := rfl
@[simp] theorem goto_rdValid (p : Phase) : (s.goto p).rdValid = s.rdValid := rfl
@[simp] theorem goto_capTooMany (p : Phase) : (s.goto p).capTooMany = s.capTooMany := rfl
@[simp] theorem goto_line (p : Phase) : (s.goto p).line = s.line := rfl
@[simp] theorem goto_rdHInt (p : Phase) : (s.goto p).rdHInt = s.rdHInt := rfl
@[simp] theorem goto_rdHDec (p : Phase) : (s.goto p).rdHDec = s.rdHDec := rfl
@[simp] theorem goto_rdTInt (p : Phase) : (s.goto p).rdTInt = s.rdTInt := rfl
@[simp] theorem goto_rdTDec (p : Phase) : (s.goto p).rdTDec = s.rdTDec := rfl
@[simp] theorem goto_rdMeasuredAt (p : Phase) : (s.goto p).rdMeasuredAt = s.rdMeasuredAt := rfl
@[simp] theorem goto_capLevel (p : Phase) : (s.goto p).capLevel = s.capLevel := rfl
@[simp] theorem goto_capCount (p : Phase) : (s.goto p).capCount = s.capCount := rfl
@[simp] theorem goto_capStall (p : Phase) : (s.goto p).capStall = s.capStall := rfl
@[simp] theorem goto_capLastTs (p : Phase) : (s.goto p).capLastTs = s.capLastTs := rfl
@[simp] theorem goto_holdStart (p : Phase) : (s.goto p).holdStart = s.holdStart := rfl
@[simp] theorem goto_capBuf (p : Phase) : (s.goto p).capBuf = s.capBuf := rfl
@[simp] theorem goto_pl (p : Phase) : (s.goto p).pl = s.pl := rfl
@[simp] theorem goto_trace (p : Phase) : (s.goto p).trace = s.trace := rfl
@[simp] theorem goto_responses (p : Phase) : (s.goto p).responses = s.responses := rfl
@[simp] theorem goto_hostIn (p : Phase) : (s.goto p).hostIn = s.hostIn := rfl
@[simp] theorem goto_hostProgram (p : Phase) : (s.goto p).hostProgram = s.hostProgram := rfl
@[simp] theorem goto_lineTampered (p : Phase) : (s.goto p).lineTampered = s.lineTampered := rfl
@[simp] theorem goto_portReq (p : Phase) : (s.goto p).portReq = s.portReq := rfl
@[simp] theorem goto_lineScript (p : Phase) : (s.goto p).lineScript = s.lineScript := rfl
@[simp] theorem goto_lineReads (p : Phase) : (s.goto p).lineReads = s.lineReads := rfl
@[simp] theorem goto_timeScript (p : Phase) : (s.goto p).timeScript = s.timeScript := rfl
@[simp] theorem goto_timeReads (p : Phase) : (s.goto p).timeReads = s.timeReads := rfl
@[simp] theorem goto_timeCount (p : Phase) : (s.goto p).timeCount = s.timeCount := rfl

/-! ### `setOutput` -/

@[simp] theorem setOutput_phase (p : Pull) : (s.setOutput p).phase = s.phase := rfl
@[simp] theorem setOutput_cmd (p : Pull) : (s.setOutput p).cmd = s.cmd := rfl
@[simp] theorem setOutput_rdValid (p : Pull) : (s.setOutput p).rdValid = s.rdValid := rfl
@[simp] theorem setOutput_capTooMany (p : Pull) : (s.setOutput p).capTooMany = s.capTooMany := rfl
@[simp] theorem setOutput_line (p : Pull) : (s.setOutput p).line = ⟨.output, p, s.line.out⟩ := rfl
@[simp] theorem setOutput_rdHInt (p : Pull) : (s.setOutput p).rdHInt = s.rdHInt := rfl
@[simp] theorem setOutput_rdHDec (p : Pull) : (s.setOutput p).rdHDec = s.rdHDec := rfl
@[simp] theorem setOutput_rdTInt (p : Pull) : (s.setOutput p).rdTInt = s.rdTInt := rfl
@[simp] theorem setOutput_rdTDec (p : Pull) : (s.setOutput p).rdTDec = s.rdTDec := rfl
@[simp] theorem setOutput_rdMeasuredAt (p : Pull) : (s.setOutput p).rdMeasuredAt = s.rdMeasuredAt := rfl
@[simp] theorem setOutput_capLevel (p : Pull) : (s.setOutput p).capLevel = s.capLevel := rfl
@[simp] theorem setOutput_capCount (p : Pull) : (s.setOutput p).capCount = s.capCount := rfl
@[simp] theorem setOutput_capStall (p : Pull) : (s.setOutput p).capStall = s.capStall := rfl
@[simp] theorem setOutput_capLastTs (p : Pull) : (s.setOutput p).capLastTs = s.capLastTs := rfl
@[simp] theorem setOutput_holdStart (p : Pull) : (s.setOutput p).holdStart = s.holdStart := rfl
@[simp] theorem setOutput_capBuf (p : Pull) : (s.setOutput p).capBuf = s.capBuf := rfl
@[simp] theorem setOutput_pl (p : Pull) : (s.setOutput p).pl = s.pl := rfl
@[simp] theorem setOutput_trace (p : Pull) : (s.setOutput p).trace = s.trace ++ [.setOutput p] := rfl
@[simp] theorem setOutput_responses (p : Pull) : (s.setOutput p).responses = s.responses := rfl
@[simp] theorem setOutput_hostIn (p : Pull) : (s.setOutput p).hostIn = s.hostIn := rfl
@[simp] theorem setOutput_hostProgram (p : Pull) : (s.setOutput p).hostProgram = s.hostProgram := rfl
@[simp] theorem setOutput_lineTampered (p : Pull) : (s.setOutput p).lineTampered = s.lineTampered := rfl
@[simp] theorem setOutput_portReq (p : Pull) : (s.setOutput p).portReq = s.portReq := rfl
@[simp] theorem setOutput_lineScript (p : Pull) : (s.setOutput p).lineScript = s.lineScript := rfl
@[simp] theorem setOutput_lineReads (p : Pull) : (s.setOutput p).lineReads = s.lineReads := rfl
@[simp] theorem setOutput_timeScript (p : Pull) : (s.setOutput p).timeScript = s.timeScript := rfl
@[simp] theorem setOutput_timeReads (p : Pull) : (s.setOutput p).timeReads = s.timeReads := rfl
@[simp] theorem setOutput_timeCount (p : Pull) : (s.setOutput p).timeCount = s.timeCount := rfl

/-! ### `setInput` -/

@[simp] theorem setInput_phase (p : Pull) : (s.setInput p).phase = s.phase := rfl
@[simp] theorem setInput_cmd (p : Pull) : (s.setInput p).cmd = s.cmd := rfl
@[simp] theorem setInput_rdValid (p : Pull) : (s.setInput p).rdValid = s.rdValid := rfl
@[simp] theorem setInput_capTooMany (p : Pull) : (s.setInput p).capTooMany = s.capTooMany := rfl
@[simp] theorem setInput_line (p : Pull) : (s.setInput p).line = ⟨.input, p, s.line.out⟩ := rfl
@[simp] theorem setInput_rdHInt (p : Pull) : (s.setInput p).rdHInt = s.rdHInt := rfl
@[simp] theorem setInput_rdHDec (p : Pull) : (s.setInput p).rdHDec = s.rdHDec := rfl
@[simp] theorem setInput_rdTInt (p : Pull) : (s.setInput p).rdTInt = s.rdTInt := rfl
@[simp] theorem setInput_rdTDec (p : Pull) : (s.setInput p).rdTDec = s.rdTDec := rfl
@[simp] theorem setInput_rdMeasuredAt (p : Pull) : (s.setInput p).rdMeasuredAt = s.rdMeasuredAt := rfl
@[simp] theorem setInput_capLevel (p : Pull) : (s.setInput p).capLevel = s.capLevel := rfl
@[simp] theorem setInput_capCount (p : Pull) : (s.setInput p).capCount = s.capCount := rfl
@[simp] theorem setInput_capStall (p : Pull) : (s.setInput p).capStall = s.capStall := rfl
@[simp] theorem setInput_capLastTs (p : Pull) : (s.setInput p).capLastTs = s.capLastTs := rfl
@[simp] theorem setInput_holdStart (p : Pull) : (s.setInput p).holdStart = s.holdStart := rfl
@[simp] theorem setInput_capBuf (p : Pull) : (s.setInput p).capBuf = s.capBuf := rfl
@[simp] theorem setInput_pl (p : Pull) : (s.setInput p).pl = s.pl := rfl
@[simp] theorem setInput_trace (p : Pull) : (s.setInput p).trace = s.trace ++ [.setInput p] := rfl
@[simp] theorem setInput_responses (p : Pull) : (s.setInput p).responses = s.responses := rfl
@[simp] theorem setInput_hostIn (p : Pull) : (s.setInput p).hostIn = s.hostIn := rfl
@[simp] theorem setInput_hostProgram (p : Pull) : (s.setInput p).hostProgram = s.hostProgram := rfl
@[simp] theorem setInput_lineTampered (p : Pull) : (s.setInput p).lineTampered = s.lineTampered := rfl
@[simp] theorem setInput_portReq (p : Pull) : (s.setInput p).portReq = s.portReq := rfl
@[simp] theorem setInput_lineScript (p : Pull) : (s.setInput p).lineScript = s.lineScript := rfl
@[simp] theorem setInput_lineReads (p : Pull) : (s.setInput p).lineReads = s.lineReads := rfl
@[simp] theorem setInput_timeScript (p : Pull) : (s.setInput p).timeScript = s.timeScript := rfl
@[simp] theorem setInput_timeReads (p : Pull) : (s.setInput p).timeReads = s.timeReads := rfl
@[simp] theorem setInput_timeCount (p : Pull) : (s.setInput p).timeCount = s.timeCount := rfl

/-! ### `writeLine` -/

@[simp] theorem writeLine_phase (l : Level) : (s.writeLine l).phase = s.phase := rfl
@[simp] theorem writeLine_cmd (l : Level) : (s.writeLine l).cmd = s.cmd := rfl
@[simp] theorem writeLine_rdValid (l : Level) : (s.writeLine l).rdValid = s.rdValid := rfl
@[simp] theorem writeLine_capTooMany (l : Level) : (s.writeLine l).capTooMany = s.capTooMany := rfl
@[simp] theorem writeLine_line (l : Level) : (s.writeLine l).line = ⟨s.line.dir, s.line.pull, l⟩ := rfl
@[simp] theorem writeLine_rdHInt (l : Level) : (s.writeLine l).rdHInt = s.rdHInt := rfl
@[simp] theorem writeLine_rdHDec (l : Level) : (s.writeLine l).rdHDec = s.rdHDec := rfl
@[simp] theorem writeLine_rdTInt (l : Level) : (s.writeLine l).rdTInt = s.rdTInt := rfl
@[simp] theorem writeLine_rdTDec (l : Level) : (s.writeLine l).rdTDec = s.rdTDec := rfl
@[simp] theorem writeLine_rdMeasuredAt (l : Level) : (s.writeLine l).rdMeasuredAt = s.rdMeasuredAt := rfl
@[simp] theorem writeLine_capLevel (l : Level) : (s.writeLine l).capLevel = s.capLevel := rfl
@[simp] theorem writeLine_capCount (l : Level) : (s.writeLine l).capCount = s.capCount := rfl
@[simp] theorem writeLine_capStall (l : Level) : (s.writeLine l).capStall = s.capStall := rfl
@[simp] theorem writeLine_capLastTs (l : Level) : (s.writeLine l).capLastTs = s.capLastTs := rfl
@[simp] theorem writeLine_holdStart (l : Level) : (s.writeLine l).holdStart = s.holdStart := rfl
@[simp] theorem writeLine_capBuf (l : Level) : (s.writeLine l).capBuf = s.capBuf := rfl
@[simp] theorem writeLine_pl (l : Level) : (s.writeLine l).pl = s.pl := rfl
@[simp] theorem writeLine_trace (l : Level) : (s.writeLine l).trace = s.trace ++ [.write l] := rfl
@[simp] theorem writeLine_responses (l : Level) : (s.writeLine l).responses = s.responses := rfl
@[simp] theorem writeLine_hostIn (l : Level) : (s.writeLine l).hostIn = s.hostIn := rfl
@[simp] theorem writeLine_hostProgram (l : Level) : (s.writeLine l).hostProgram = s.hostProgram := rfl
@[simp] theorem writeLine_lineTampered (l : Level) : (s.writeLine l).lineTampered = s.lineTampered := rfl
@[simp] theorem writeLine_portReq (l : Level) : (s.writeLine l).portReq = s.portReq := rfl
@[simp] theorem writeLine_lineScript (l : Level) : (s.writeLine l).lineScript = s.lineScript := rfl
@[simp] theorem writeLine_lineReads (l : Level) : (s.writeLine l).lineReads = s.lineReads := rfl
@[simp] theorem writeLine_timeScript (l : Level) : (s.writeLine l).timeScript = s.timeScript := rfl
@[simp] theorem writeLine_timeReads (l : Level) : (s.writeLine l).timeReads = s.timeReads := rfl
@[simp] theorem writeLine_timeCount (l : Level) : (s.writeLine l).timeCount = s.timeCount := rfl

/-! ### `readLine` -/

@[simp] theorem readLine_phase : s.readLine.phase = s.phase := rfl
@[simp] theorem readLine_cmd : s.readLine.cmd = s.cmd := rfl
@[simp] theorem readLine_rdValid : s.readLine.rdValid = s.rdValid := rfl
@[simp] theorem readLine_capTooMany : s.readLine.capTooMany = s.capTooMany := rfl
@[simp] theorem readLine_line : s.readLine.line = s.line := rfl
@[simp] theorem readLine_rdHInt : s.readLine.rdHInt = s.rdHInt := rfl
@[simp] theorem readLine_rdHDec : s.readLine.rdHDec = s.rdHDec := rfl
@[simp] theorem readLine_rdTInt : s.readLine.rdTInt = s.rdTInt := rfl
@[simp] theorem readLine_rdTDec : s.readLine.rdTDec = s.rdTDec := rfl
@[simp] theorem readLine_rdMeasuredAt : s.readLine.rdMeasuredAt = s.rdMeasuredAt := rfl
@[simp] theorem readLine_capLevel : s.readLine.capLevel = s.capLevel := rfl
@[simp] theorem readLine_capCount : s.readLine.capCount = s.capCount := rfl
@[simp] theorem readLine_capStall : s.readLine.capStall = s.capStall := rfl
@[simp] theorem readLine_capLastTs : s.readLine.capLastTs = s.capLastTs := rfl
@[simp] theorem readLine_holdStart : s.readLine.holdStart = s.holdStart := rfl
@[simp] theorem readLine_capBuf : s.readLine.capBuf = s.capBuf := rfl
@[simp] theorem readLine_pl : s.readLine.pl = s.pl := rfl
@[simp] theorem readLine_trace : s.readLine.trace = s.trace ++ [.read s.drawLevel] := rfl
@[simp] theorem readLine_responses : s.readLine.responses = s.responses := rfl
@[simp] theorem readLine_hostIn : s.readLine.hostIn = s.hostIn := rfl
@[simp] theorem readLine_hostProgram : s.readLine.hostProgram = s.hostProgram := rfl
@[simp] theorem readLine_lineTampered : s.readLine.lineTampered = s.lineTampered := rfl
@[simp] theorem readLine_portReq : s.readLine.portReq = s.portReq := rfl
@[simp] theorem readLine_lineScript : s.readLine.lineScript = s.lineScript.tail := rfl
@[simp] theorem readLine_lineReads : s.readLine.lineReads = s.lineReads + 1 := rfl
@[simp] theorem readLine_timeScript : s.readLine.timeScript = s.timeScript := rfl
@[simp] theorem readLine_timeReads : s.readLine.timeReads = s.timeReads := rfl
@[simp] theorem readLine_timeCount : s.readLine.timeCount = s.timeCount := rfl

/-! ### `readTime` -/

@[simp] theorem readTime_phase : s.readTime.phase = s.phase := rfl
@[simp] theorem readTime_cmd : s.readTime.cmd = s.cmd := rfl
@[simp] theorem readTime_rdValid : s.readTime.rdValid = s.rdValid := rfl
@[simp] theorem readTime_capTooMany : s.readTime.capTooMany = s.capTooMany := rfl
@[simp] theorem readTime_line : s.readTime.line = s.line := rfl
@[simp] theorem readTime_rdHInt : s.readTime.rdHInt = s.rdHInt := rfl
@[simp] theorem readTime_rdHDec : s.readTime.rdHDec = s.rdHDec := rfl
@[simp] theorem readTime_rdTInt : s.readTime.rdTInt = s.rdTInt := rfl
@[simp] theorem readTime_rdTDec : s.readTime.rdTDec = s.rdTDec := rfl
@[simp] theorem readTime_rdMeasuredAt : s.readTime.rdMeasuredAt = s.rdMeasuredAt := rfl
@[simp] theorem readTime_capLevel : s.readTime.capLevel = s.capLevel := rfl
@[simp] theorem readTime_capCount : s.readTime.capCount = s.capCount := rfl
@[simp] theorem readTime_capStall : s.readTime.capStall = s.capStall := rfl
@[simp] theorem readTime_capLastTs : s.readTime.capLastTs = s.capLastTs := rfl
@[simp] theorem readTime_holdStart : s.readTime.holdStart = s.holdStart := rfl
@[simp] theorem readTime_capBuf : s.readTime.capBuf = s.capBuf := rfl
@[simp] theorem readTime_pl : s.readTime.pl = s.pl := rfl
@[simp] theorem readTime_trace : s.readTime.trace = s.trace ++ [.now s.drawTime] := rfl
@[simp] theorem readTime_responses : s.readTime.responses = s.responses := rfl
@[simp] theorem readTime_hostIn : s.readTime.hostIn = s.hostIn := rfl
@[simp] theorem readTime_hostProgram : s.readTime.hostProgram = s.hostProgram := rfl
@[simp] theorem readTime_lineTampered : s.readTime.lineTampered = s.lineTampered := rfl
@[simp] theorem readTime_portReq : s.readTime.portReq = s.portReq := rfl
@[simp] theorem readTime_lineScript : s.readTime.lineScript = s.lineScript := rfl
@[simp] theorem readTime_lineReads : s.readTime.lineReads = s.lineReads := rfl
@[simp] theorem readTime_timeScript : s.readTime.timeScript = s.timeScript.tail := rfl
@[simp] theorem readTime_timeReads : s.readTime.timeReads = s.timeReads + 1 := rfl
@[simp] theorem readTime_timeCount : s.readTime.timeCount = s.drawCount := rfl

/-! ### `readElapsed` -/

@[simp] theorem readElapsed_phase (w : Word) : (s.readElapsed w).phase = s.phase := rfl
@[simp] theorem readElapsed_cmd (w : Word) : (s.readElapsed w).cmd = s.cmd := rfl
@[simp] theorem readElapsed_rdValid (w : Word) : (s.readElapsed w).rdValid = s.rdValid := rfl
@[simp] theorem readElapsed_capTooMany (w : Word) : (s.readElapsed w).capTooMany = s.capTooMany := rfl
@[simp] theorem readElapsed_line (w : Word) : (s.readElapsed w).line = s.line := rfl
@[simp] theorem readElapsed_rdHInt (w : Word) : (s.readElapsed w).rdHInt = s.rdHInt := rfl
@[simp] theorem readElapsed_rdHDec (w : Word) : (s.readElapsed w).rdHDec = s.rdHDec := rfl
@[simp] theorem readElapsed_rdTInt (w : Word) : (s.readElapsed w).rdTInt = s.rdTInt := rfl
@[simp] theorem readElapsed_rdTDec (w : Word) : (s.readElapsed w).rdTDec = s.rdTDec := rfl
@[simp] theorem readElapsed_rdMeasuredAt (w : Word) : (s.readElapsed w).rdMeasuredAt = s.rdMeasuredAt := rfl
@[simp] theorem readElapsed_capLevel (w : Word) : (s.readElapsed w).capLevel = s.capLevel := rfl
@[simp] theorem readElapsed_capCount (w : Word) : (s.readElapsed w).capCount = s.capCount := rfl
@[simp] theorem readElapsed_capStall (w : Word) : (s.readElapsed w).capStall = s.capStall := rfl
@[simp] theorem readElapsed_capLastTs (w : Word) : (s.readElapsed w).capLastTs = s.capLastTs := rfl
@[simp] theorem readElapsed_holdStart (w : Word) : (s.readElapsed w).holdStart = s.holdStart := rfl
@[simp] theorem readElapsed_capBuf (w : Word) : (s.readElapsed w).capBuf = s.capBuf := rfl
@[simp] theorem readElapsed_pl (w : Word) : (s.readElapsed w).pl = s.pl := rfl
@[simp] theorem readElapsed_trace (w : Word) : (s.readElapsed w).trace = s.trace ++ [.elapsed w (s.drawElapsed w)] := rfl
@[simp] theorem readElapsed_responses (w : Word) : (s.readElapsed w).responses = s.responses := rfl
@[simp] theorem readElapsed_hostIn (w : Word) : (s.readElapsed w).hostIn = s.hostIn := rfl
@[simp] theorem readElapsed_hostProgram (w : Word) : (s.readElapsed w).hostProgram = s.hostProgram := rfl
@[simp] theorem readElapsed_lineTampered (w : Word) : (s.readElapsed w).lineTampered = s.lineTampered := rfl
@[simp] theorem readElapsed_portReq (w : Word) : (s.readElapsed w).portReq = s.portReq := rfl
@[simp] theorem readElapsed_lineScript (w : Word) : (s.readElapsed w).lineScript = s.lineScript := rfl
@[simp] theorem readElapsed_lineReads (w : Word) : (s.readElapsed w).lineReads = s.lineReads := rfl
@[simp] theorem readElapsed_timeScript (w : Word) : (s.readElapsed w).timeScript = s.timeScript.tail := rfl
@[simp] theorem readElapsed_timeReads (w : Word) : (s.readElapsed w).timeReads = s.timeReads + 1 := rfl
@[simp] theorem readElapsed_timeCount (w : Word) : (s.readElapsed w).timeCount = s.drawCount := rfl

/-! ### `startHold` -/

@[simp] theorem startHold_phase (w : Word) : (s.startHold w).phase = s.phase := rfl
@[simp] theorem startHold_cmd (w : Word) : (s.startHold w).cmd = s.cmd := rfl
@[simp] theorem startHold_rdValid (w : Word) : (s.startHold w).rdValid = s.rdValid := rfl
@[simp] theorem startHold_capTooMany (w : Word) : (s.startHold w).capTooMany = s.capTooMany := rfl
@[simp] theorem startHold_line (w : Word) : (s.startHold w).line = s.line := rfl
@[simp] theorem startHold_rdHInt (w : Word) : (s.startHold w).rdHInt = s.rdHInt := rfl
@[simp] theorem startHold_rdHDec (w : Word) : (s.startHold w).rdHDec = s.rdHDec := rfl
@[simp] theorem startHold_rdTInt (w : Word) : (s.startHold w).rdTInt = s.rdTInt := rfl
@[simp] theorem startHold_rdTDec (w : Word) : (s.startHold w).rdTDec = s.rdTDec := rfl
@[simp] theorem startHold_rdMeasuredAt (w : Word) : (s.startHold w).rdMeasuredAt = s.rdMeasuredAt := rfl
@[simp] theorem startHold_capLevel (w : Word) : (s.startHold w).capLevel = s.capLevel := rfl
@[simp] theorem startHold_capCount (w : Word) : (s.startHold w).capCount = s.capCount := rfl
@[simp] theorem startHold_capStall (w : Word) : (s.startHold w).capStall = s.capStall := rfl
@[simp] theorem startHold_capLastTs (w : Word) : (s.startHold w).capLastTs = s.capLastTs := rfl
@[simp] theorem startHold_holdStart (w : Word) : (s.startHold w).holdStart = w := rfl
@[simp] theorem startHold_capBuf (w : Word) : (s.startHold w).capBuf = s.capBuf := rfl
@[simp] theorem startHold_pl (w : Word) : (s.startHold w).pl = s.pl := rfl
@[simp] theorem startHold_trace (w : Word) : (s.startHold w).trace = s.trace := rfl
@[simp] theorem startHold_responses (w : Word) : (s.startHold w).responses = s.responses := rfl
@[simp] theorem startHold_hostIn (w : Word) : (s.startHold w).hostIn = s.hostIn := rfl
@[simp] theorem startHold_hostProgram (w : Word) : (s.startHold w).hostProgram = s.hostProgram := rfl
@[simp] theorem startHold_lineTampered (w : Word) : (s.startHold w).lineTampered = s.lineTampered := rfl
@[simp] theorem startHold_portReq (w : Word) : (s.startHold w).portReq = s.portReq := rfl
@[simp] theorem startHold_lineScript (w : Word) : (s.startHold w).lineScript = s.lineScript := rfl
@[simp] theorem startHold_lineReads (w : Word) : (s.startHold w).lineReads = s.lineReads := rfl
@[simp] theorem startHold_timeScript (w : Word) : (s.startHold w).timeScript = s.timeScript := rfl
@[simp] theorem startHold_timeReads (w : Word) : (s.startHold w).timeReads = s.timeReads := rfl
@[simp] theorem startHold_timeCount (w : Word) : (s.startHold w).timeCount = s.timeCount := rfl

/-! ### `respond` -/

@[simp] theorem respond_phase (r : BitVec 72) : (s.respond r).phase = .idle := rfl
@[simp] theorem respond_cmd (r : BitVec 72) : (s.respond r).cmd = s.cmd := rfl
@[simp] theorem respond_rdValid (r : BitVec 72) : (s.respond r).rdValid = s.rdValid := rfl
@[simp] theorem respond_capTooMany (r : BitVec 72) : (s.respond r).capTooMany = s.capTooMany := rfl
@[simp] theorem respond_line (r : BitVec 72) : (s.respond r).line = s.line := rfl
@[simp] theorem respond_rdHInt (r : BitVec 72) : (s.respond r).rdHInt = s.rdHInt := rfl
@[simp] theorem respond_rdHDec (r : BitVec 72) : (s.respond r).rdHDec = s.rdHDec := rfl
@[simp] theorem respond_rdTInt (r : BitVec 72) : (s.respond r).rdTInt = s.rdTInt := rfl
@[simp] theorem respond_rdTDec (r : BitVec 72) : (s.respond r).rdTDec = s.rdTDec := rfl
@[simp] theorem respond_rdMeasuredAt (r : BitVec 72) : (s.respond r).rdMeasuredAt = s.rdMeasuredAt := rfl
@[simp] theorem respond_capLevel (r : BitVec 72) : (s.respond r).capLevel = s.capLevel := rfl
@[simp] theorem respond_capCount (r : BitVec 72) : (s.respond r).capCount = s.capCount := rfl
@[simp] theorem respond_capStall (r : BitVec 72) : (s.respond r).capStall = s.capStall := rfl
@[simp] theorem respond_capLastTs (r : BitVec 72) : (s.respond r).capLastTs = s.capLastTs := rfl
@[simp] theorem respond_holdStart (r : BitVec 72) : (s.respond r).holdStart = s.holdStart := rfl
@[simp] theorem respond_capBuf (r : BitVec 72) : (s.respond r).capBuf = s.capBuf := rfl
@[simp] theorem respond_pl (r : BitVec 72) : (s.respond r).pl = s.pl := rfl
@[simp] theorem respond_trace (r : BitVec 72) : (s.respond r).trace = s.trace := rfl
@[simp] theorem respond_responses (r : BitVec 72) : (s.respond r).responses = s.responses ++ [r] := rfl
@[simp] theorem respond_hostIn (r : BitVec 72) : (s.respond r).hostIn = s.hostIn := rfl
@[simp] theorem respond_hostProgram (r : BitVec 72) : (s.respond r).hostProgram = s.hostProgram := rfl
@[simp] theorem respond_lineTampered (r : BitVec 72) : (s.respond r).lineTampered = s.lineTampered := rfl
@[simp] theorem respond_portReq (r : BitVec 72) : (s.respond r).portReq = s.portReq := rfl
@[simp] theorem respond_lineScript (r : BitVec 72) : (s.respond r).lineScript = s.lineScript := rfl
@[simp] theorem respond_lineReads (r : BitVec 72) : (s.respond r).lineReads = s.lineReads := rfl
@[simp] theorem respond_timeScript (r : BitVec 72) : (s.respond r).timeScript = s.timeScript := rfl
@[simp] theorem respond_timeReads (r : BitVec 72) : (s.respond r).timeReads = s.timeReads := rfl
@[simp] theorem respond_timeCount (r : BitVec 72) : (s.respond r).timeCount = s.timeCount := rfl

/-! ### `raise` -/

@[simp] theorem raise_phase (e : SensorError) : (s.raise e).phase = .idle := rfl
@[simp] theorem raise_cmd (e : SensorError) : (s.raise e).cmd = s.cmd := rfl
@[simp] theorem raise_rdValid (e : SensorError) : (s.raise e).rdValid = s.rdValid := rfl
@[simp] theorem raise_capTooMany (e : SensorError) : (s.raise e).capTooMany = s.capTooMany := rfl
@[simp] theorem raise_line (e : SensorError) : (s.raise e).line = s.line := rfl
@[simp] theorem raise_rdHInt (e : SensorError) : (s.raise e).rdHInt = s.rdHInt := rfl
@[simp] theorem raise_rdHDec (e : SensorError) : (s.raise e).rdHDec = s.rdHDec := rfl
@[simp] theorem raise_rdTInt (e : SensorError) : (s.raise e).rdTInt = s.rdTInt := rfl
@[simp] theorem raise_rdTDec (e : SensorError) : (s.raise e).rdTDec = s.rdTDec := rfl
@[simp] theorem raise_rdMeasuredAt (e : SensorError) : (s.raise e).rdMeasuredAt = s.rdMeasuredAt := rfl
@[simp] theorem raise_capLevel (e : SensorError) : (s.raise e).capLevel = s.capLevel := rfl
@[simp] theorem raise_capCount (e : SensorError) : (s.raise e).capCount = s.capCount := rfl
@[simp] theorem raise_capStall (e : SensorError) : (s.raise e).capStall = s.capStall := rfl
@[simp] theorem raise_capLastTs (e : SensorError) : (s.raise e).capLastTs = s.capLastTs := rfl
@[simp] theorem raise_holdStart (e : SensorError) : (s.raise e).holdStart = s.holdStart := rfl
@[simp] theorem raise_capBuf (e : SensorError) : (s.raise e).capBuf = s.capBuf := rfl
@[simp] theorem raise_pl (e : SensorError) : (s.raise e).pl = s.pl := rfl
@[simp] theorem raise_trace (e : SensorError) : (s.raise e).trace = s.trace := rfl
@[simp] theorem raise_responses (e : SensorError) : (s.raise e).responses = s.responses ++ [e.word] := rfl
@[simp] theorem raise_hostIn (e : SensorError) : (s.raise e).hostIn = s.hostIn := rfl
@[simp] theorem raise_hostProgram (e : SensorError) : (s.raise e).hostProgram = s.hostProgram := rfl
@[simp] theorem raise_lineTampered (e : SensorError) : (s.raise e).lineTampered = s.lineTampered := rfl
@[simp] theorem raise_portReq (e : SensorError) : (s.raise e).portReq = s.portReq := rfl
@[simp] theorem raise_lineScript (e : SensorError) : (s.raise e).lineScript = s.lineScript := rfl
@[simp] theorem raise_lineReads (e : SensorError) : (s.raise e).lineReads = s.lineReads := rfl
@[simp] theorem raise_timeScript (e : SensorError) : (s.raise e).timeScript = s.timeScript := rfl
@[simp] theorem raise_timeReads (e : SensorError) : (s.raise e).timeReads = s.timeReads := rfl
@[simp] theorem raise_timeCount (e : SensorError) : (s.raise e).timeCount = s.timeCount := rfl

/-! ### `takeHostIn` -/

@[simp] theorem takeHostIn_phase : s.takeHostIn.phase = s.phase := rfl
@[simp] theorem takeHostIn_cmd : s.takeHostIn.cmd = s.cmd := rfl
@[simp] theorem takeHostIn_rdValid : s.takeHostIn.rdValid = s.rdValid := rfl
@[simp] theorem takeHostIn_capTooMany : s.takeHostIn.capTooMany = s.capTooMany := rfl
@[simp] theorem takeHostIn_line : s.takeHostIn.line = s.line := rfl
@[simp] theorem takeHostIn_rdHInt : s.takeHostIn.rdHInt = s.rdHInt := rfl
@[simp] theorem takeHostIn_rdHDec : s.takeHostIn.rdHDec = s.rdHDec := rfl
@[simp] theorem takeHostIn_rdTInt : s.takeHostIn.rdTInt = s.rdTInt := rfl
@[simp] theorem takeHostIn_rdTDec : s.takeHostIn.rdTDec = s.rdTDec := rfl
@[simp] theorem takeHostIn_rdMeasuredAt : s.takeHostIn.rdMeasuredAt = s.rdMeasuredAt := rfl
@[simp] theorem takeHostIn_capLevel : s.takeHostIn.capLevel = s.capLevel := rfl
@[simp] theorem takeHostIn_capCount : s.takeHostIn.capCount = s.capCount := rfl
@[simp] theorem takeHostIn_capStall : s.takeHostIn.capStall = s.capStall := rfl
@[simp] theorem takeHostIn_capLastTs : s.takeHostIn.capLastTs = s.capLastTs := rfl
@[simp] theorem takeHostIn_holdStart : s.takeHostIn.holdStart = s.holdStart := rfl
@[simp] theorem takeHostIn_capBuf : s.takeHostIn.capBuf = s.capBuf := rfl
@[simp] theorem takeHostIn_pl : s.takeHostIn.pl = s.pl := rfl
@[simp] theorem takeHostIn_trace : s.takeHostIn.trace = s.trace := rfl
@[simp] theorem takeHostIn_responses : s.takeHostIn.responses = s.responses := rfl
@[simp] theorem takeHostIn_hostIn : s.takeHostIn.hostIn = none := rfl
@[simp] theorem takeHostIn_hostProgram : s.takeHostIn.hostProgram = s.hostProgram := rfl
@[simp] theorem takeHostIn_lineTampered : s.takeHostIn.lineTampered = s.lineTampered := rfl
@[simp] theorem takeHostIn_portReq : s.takeHostIn.portReq = s.portReq := rfl
@[simp] theorem takeHostIn_lineScript : s.takeHostIn.lineScript = s.lineScript := rfl
@[simp] theorem takeHostIn_lineReads : s.takeHostIn.lineReads = s.lineReads := rfl
@[simp] theorem takeHostIn_timeScript : s.takeHostIn.timeScript = s.timeScript := rfl
@[simp] theorem takeHostIn_timeReads : s.takeHostIn.timeReads = s.timeReads := rfl
@[simp] theorem takeHostIn_timeCount : s.takeHostIn.timeCount = s.timeCount := rfl

/-! ### `takeProgram` -/

@[simp] theorem takeProgram_phase (ws : List Byte) : (s.takeProgram ws).phase = s.phase := rfl
@[simp] theorem takeProgram_cmd (ws : List Byte) : (s.takeProgram ws).cmd = s.cmd := rfl
@[simp] theorem takeProgram_rdValid (ws : List Byte) : (s.takeProgram ws).rdValid = s.rdValid := rfl
@[simp] theorem takeProgram_capTooMany (ws : List Byte) : (s.takeProgram ws).capTooMany = s.capTooMany := rfl
@[simp] theorem takeProgram_line (ws : List Byte) : (s.takeProgram ws).line = s.line := rfl
@[simp] theorem takeProgram_rdHInt (ws : List Byte) : (s.takeProgram ws).rdHInt = s.rdHInt := rfl
@[simp] theorem takeProgram_rdHDec (ws : List Byte) : (s.takeProgram ws).rdHDec = s.rdHDec := rfl
@[simp] theorem takeProgram_rdTInt (ws : List Byte) : (s.takeProgram ws).rdTInt = s.rdTInt := rfl
@[simp] theorem takeProgram_rdTDec (ws : List Byte) : (s.takeProgram ws).rdTDec = s.rdTDec := rfl
@[simp] theorem takeProgram_rdMeasuredAt (ws : List Byte) : (s.takeProgram ws).rdMeasuredAt = s.rdMeasuredAt := rfl
@[simp] theorem takeProgram_capLevel (ws : List Byte) : (s.takeProgram ws).capLevel = s.capLevel := rfl
@[simp] theorem takeProgram_capCount (ws : List Byte) : (s.takeProgram ws).capCount = s.capCount := rfl
@[simp] theorem takeProgram_capStall (ws : List Byte) : (s.takeProgram ws).capStall = s.capStall := rfl
@[simp] theorem takeProgram_capLastTs (ws : List Byte) : (s.takeProgram ws).capLastTs = s.capLastTs := rfl
@[simp] theorem takeProgram_holdStart (ws : List Byte) : (s.takeProgram ws).holdStart = s.holdStart := rfl
@[simp] theorem takeProgram_capBuf (ws : List Byte) : (s.takeProgram ws).capBuf = s.capBuf := rfl
@[simp] theorem takeProgram_pl (ws : List Byte) : (s.takeProgram ws).pl = s.pl := rfl
@[simp] theorem takeProgram_trace (ws : List Byte) : (s.takeProgram ws).trace = s.trace := rfl
@[simp] theorem takeProgram_responses (ws : List Byte) : (s.takeProgram ws).responses = s.responses := rfl
@[simp] theorem takeProgram_hostIn (ws : List Byte) : (s.takeProgram ws).hostIn = s.hostIn := rfl
@[simp] theorem takeProgram_hostProgram (ws : List Byte) : (s.takeProgram ws).hostProgram = ws := rfl
@[simp] theorem takeProgram_lineTampered (ws : List Byte) : (s.takeProgram ws).lineTampered = s.lineTampered := rfl
@[simp] theorem takeProgram_portReq (ws : List Byte) : (s.takeProgram ws).portReq = s.portReq := rfl
@[simp] theorem takeProgram_lineScript (ws : List Byte) : (s.takeProgram ws).lineScript = s.lineScript := rfl
@[simp] theorem takeProgram_lineReads (ws : List Byte) : (s.takeProgram ws).lineReads = s.lineReads := rfl
@[simp] theorem takeProgram_timeScript (ws : List Byte) : (s.takeProgram ws).timeScript = s.timeScript := rfl
@[simp] theorem takeProgram_timeReads (ws : List Byte) : (s.takeProgram ws).timeReads = s.timeReads := rfl
@[simp] theorem takeProgram_timeCount (ws : List Byte) : (s.takeProgram ws).timeCount = s.timeCount := rfl

/-! ### `takePort` -/

@[simp] theorem takePort_phase : s.takePort.phase = s.phase := rfl
@[simp] theorem takePort_cmd : s.takePort.cmd = s.cmd := rfl
@[simp] theorem takePort_rdValid : s.takePort.rdValid = s.rdValid := rfl
@[simp] theorem takePort_capTooMany : s.takePort.capTooMany = s.capTooMany := rfl
@[simp] theorem takePort_line : s.takePort.line = s.line := rfl
@[simp] theorem takePort_rdHInt : s.takePort.rdHInt = s.rdHInt := rfl
@[simp] theorem takePort_rdHDec : s.takePort.rdHDec = s.rdHDec := rfl
@[simp] theorem takePort_rdTInt : s.takePort.rdTInt = s.rdTInt := rfl
@[simp] theorem takePort_rdTDec : s.takePort.rdTDec = s.rdTDec := rfl
@[simp] theorem takePort_rdMeasuredAt : s.takePort.rdMeasuredAt = s.rdMeasuredAt := rfl
@[simp] theorem takePort_capLevel : s.takePort.capLevel = s.capLevel := rfl
@[simp] theorem takePort_capCount : s.takePort.capCount = s.capCount := rfl
@[simp] theorem takePort_capStall : s.takePort.capStall = s.capStall := rfl
@[simp] theorem takePort_capLastTs : s.takePort.capLastTs = s.capLastTs := rfl
@[simp] theorem takePort_holdStart : s.takePort.holdStart = s.holdStart := rfl
@[simp] theorem takePort_capBuf : s.takePort.capBuf = s.capBuf := rfl
@[simp] theorem takePort_pl : s.takePort.pl = s.pl := rfl
@[simp] theorem takePort_trace : s.takePort.trace = s.trace := rfl
@[simp] theorem takePort_responses : s.takePort.responses = s.responses := rfl
@[simp] theorem takePort_hostIn : s.takePort.hostIn = s.hostIn := rfl
@[simp] theorem takePort_hostProgram : s.takePort.hostProgram = s.hostProgram := rfl
@[simp] theorem takePort_lineTampered : s.takePort.lineTampered = s.lineTampered := rfl
@[simp] theorem takePort_portReq : s.takePort.portReq = none := rfl
@[simp] theorem takePort_lineScript : s.takePort.lineScript = s.lineScript := rfl
@[simp] theorem takePort_lineReads : s.takePort.lineReads = s.lineReads := rfl
@[simp] theorem takePort_timeScript : s.takePort.timeScript = s.timeScript := rfl
@[simp] theorem takePort_timeReads : s.takePort.timeReads = s.timeReads := rfl
@[simp] theorem takePort_timeCount : s.takePort.timeCount = s.timeCount := rfl

/-! ### `accept` -/

@[simp] theorem accept_phase (c : HostCmd) : (s.accept c).phase = .check := rfl
@[simp] theorem accept_cmd (c : HostCmd) : (s.accept c).cmd = c := rfl
@[simp] theorem accept_rdValid (c : HostCmd) : (s.accept c).rdValid = s.rdValid := rfl
@[simp] theorem accept_capTooMany (c : HostCmd) : (s.accept c).capTooMany = s.capTooMany := rfl
@[simp] theorem accept_line (c : HostCmd) : (s.accept c).line = s.line := rfl
@[simp] theorem accept_rdHInt (c : HostCmd) : (s.accept c).rdHInt = s.rdHInt := rfl
@[simp] theorem accept_rdHDec (c : HostCmd) : (s.accept c).rdHDec = s.rdHDec := rfl
@[simp] theorem accept_rdTInt (c : HostCmd) : (s.accept c).rdTInt = s.rdTInt := rfl
@[simp] theorem accept_rdTDec (c : HostCmd) : (s.accept c).rdTDec = s.rdTDec := rfl
@[simp] theorem accept_rdMeasuredAt (c : HostCmd) : (s.accept c).rdMeasuredAt = s.rdMeasuredAt := rfl
@[simp] theorem accept_capLevel (c : HostCmd) : (s.accept c).capLevel = s.capLevel := rfl
@[simp] theorem accept_capCount (c : HostCmd) : (s.accept c).capCount = s.capCount := rfl
@[simp] theorem accept_capStall (c : HostCmd) : (s.accept c).capStall = s.capStall := rfl
@[simp] theorem accept_capLastTs (c : HostCmd) : (s.accept c).capLastTs = s.capLastTs := rfl
@[simp] theorem accept_holdStart (c : HostCmd) : (s.accept c).holdStart = s.holdStart := rfl
@[simp] theorem accept_capBuf (c : HostCmd) : (s.accept c).capBuf = s.capBuf := rfl
@[simp] theorem accept_pl (c : HostCmd) : (s.accept c).pl = s.pl := rfl
@[simp] theorem accept_trace (c : HostCmd) : (s.accept c).trace = s.trace := rfl
@[simp] theorem accept_responses (c : HostCmd) : (s.accept c).responses = s.responses := rfl
@[simp] theorem accept_hostIn (c : HostCmd) : (s.accept c).hostIn = s.hostIn := rfl
@[simp] theorem accept_hostProgram (c : HostCmd) : (s.accept c).hostProgram = s.hostProgram := rfl
@[simp] theorem accept_lineTampered (c : HostCmd) : (s.accept c).lineTampered = s.lineTampered := rfl
@[simp] theorem accept_portReq (c : HostCmd) : (s.accept c).portReq = s.portReq := rfl
@[simp] theorem accept_lineScript (c : HostCmd) : (s.accept c).lineScript = s.lineScript := rfl
@[simp] theorem accept_lineReads (c : HostCmd) : (s.accept c).lineReads = s.lineReads := rfl
@[simp] theorem accept_timeScript (c : HostCmd) : (s.accept c).timeScript = s.timeScript := rfl
@[simp] theorem accept_timeReads (c : HostCmd) : (s.accept c).timeReads = s.timeReads := rfl
@[simp] theorem accept_timeCount (c : HostCmd) : (s.accept c).timeCount = s.timeCount := rfl

/-! ### `armCapture` -/

@[simp] theorem armCapture_phase (w : Word) : (s.armCapture w).phase = s.phase := rfl
@[simp] theorem armCapture_cmd (w : Word) : (s.armCapture w).cmd = s.cmd := rfl
@[simp] theorem armCapture_rdValid (w : Word) : (s.armCapture w).rdValid = s.rdValid := rfl
@[simp] theorem armCapture_capTooMany (w : Word) : (s.armCapture w).capTooMany = false := rfl
@[simp] theorem armCapture_line (w : Word) : (s.armCapture w).line = s.line := rfl
@[simp] theorem armCapture_rdHInt (w : Word) : (s.armCapture w).rdHInt = s.rdHInt := rfl
@[simp] theorem armCapture_rdHDec (w : Word) : (s.armCapture w).rdHDec = s.rdHDec := rfl
@[simp] theorem armCapture_rdTInt (w : Word) : (s.armCapture w).rdTInt = s.rdTInt := rfl
@[simp] theorem armCapture_rdTDec (w : Word) : (s.armCapture w).rdTDec = s.rdTDec := rfl
@[simp] theorem armCapture_rdMeasuredAt (w : Word) : (s.armCapture w).rdMeasuredAt = s.rdMeasuredAt := rfl
@[simp] theorem armCapture_capLevel (w : Word) : (s.armCapture w).capLevel = Config.initLevel := rfl
@[simp] theorem armCapture_capCount (w : Word) : (s.armCapture w).capCount = 0 := rfl
@[simp] theorem armCapture_capStall (w : Word) : (s.armCapture w).capStall = 0 := rfl
@[simp] theorem armCapture_capLastTs (w : Word) : (s.armCapture w).capLastTs = w := rfl
@[simp] theorem armCapture_holdStart (w : Word) : (s.armCapture w).holdStart = s.holdStart := rfl
@[simp] theorem armCapture_capBuf (w : Word) : (s.armCapture w).capBuf = s.capBuf := rfl
@[simp] theorem armCapture_pl (w : Word) : (s.armCapture w).pl = s.pl := rfl
@[simp] theorem armCapture_trace (w : Word) : (s.armCapture w).trace = s.trace := rfl
@[simp] theorem armCapture_responses (w : Word) : (s.armCapture w).responses = s.responses := rfl
@[simp] theorem armCapture_hostIn (w : Word) : (s.armCapture w).hostIn = s.hostIn := rfl
@[simp] theorem armCapture_hostProgram (w : Word) : (s.armCapture w).hostProgram = s.hostProgram := rfl
@[simp] theorem armCapture_lineTampered (w : Word) : (s.armCapture w).lineTampered = s.lineTampered := rfl
@[simp] theorem armCapture_portReq (w : Word) : (s.armCapture w).portReq = s.portReq := rfl
@[simp] theorem armCapture_lineScript (w : Word) : (s.armCapture w).lineScript = s.lineScript := rfl
@[simp] theorem armCapture_lineReads (w : Word) : (s.armCapture w).lineReads = s.lineReads := rfl
@[simp] theorem armCapture_timeScript (w : Word) : (s.armCapture w).timeScript = s.timeScript := rfl
@[simp] theorem armCapture_timeReads (w : Word) : (s.armCapture w).timeReads = s.timeReads := rfl
@[simp] theorem armCapture_timeCount (w : Word) : (s.armCapture w).timeCount = s.timeCount := rfl

/-! ### `setTooMany` -/

@[simp] theorem setTooMany_phase : s.setTooMany.phase = s.phase := rfl
@[simp] theorem setTooMany_cmd : s.setTooMany.cmd = s.cmd := rfl
@[simp] theorem setTooMany_rdValid : s.setTooMany.rdValid = s.rdValid := rfl
@[simp] theorem setTooMany_capTooMany : s.setTooMany.capTooMany = true := rfl
@[simp] theorem setTooMany_line : s.setTooMany.line = s.line := rfl
@[simp] theorem setTooMany_rdHInt : s.setTooMany.rdHInt = s.rdHInt := rfl
@[simp] theorem setTooMany_rdHDec : s.setTooMany.rdHDec = s.rdHDec := rfl
@[simp] theorem setTooMany_rdTInt : s.setTooMany.rdTInt = s.rdTInt := rfl
@[simp] theorem setTooMany_rdTDec : s.setTooMany.rdTDec = s.rdTDec := rfl
@[simp] theorem setTooMany_rdMeasuredAt : s.setTooMany.rdMeasuredAt = s.rdMeasuredAt := rfl
@[simp] theorem setTooMany_capLevel : s.setTooMany.capLevel = s.capLevel := rfl
@[simp] theorem setTooMany_capCount : s.setTooMany.capCount = s.capCount := rfl
@[simp] theorem setTooMany_capStall : s.setTooMany.capStall = s.capStall := rfl
@[simp] theorem setTooMany_capLastTs : s.setTooMany.capLastTs = s.capLastTs := rfl
@[simp] theorem setTooMany_holdStart : s.setTooMany.holdStart = s.holdStart := rfl
@[simp] theorem setTooMany_capBuf : s.setTooMany.capBuf = s.capBuf := rfl
@[simp] theorem setTooMany_pl : s.setTooMany.pl = s.pl := rfl
@[simp] theorem setTooMany_trace : s.setTooMany.trace = s.trace := rfl
@[simp] theorem setTooMany_responses : s.setTooMany.responses = s.responses := rfl
@[simp] theorem setTooMany_hostIn : s.setTooMany.hostIn = s.hostIn := rfl
@[simp] theorem setTooMany_hostProgram : s.setTooMany.hostProgram = s.hostProgram := rfl
@[simp] theorem setTooMany_lineTampered : s.setTooMany.lineTampered = s.lineTampered := rfl
@[simp] theorem setTooMany_portReq : s.setTooMany.portReq = s.portReq := rfl
@[simp] theorem setTooMany_lineScript : s.setTooMany.lineScript = s.lineScript := rfl
@[simp] theorem setTooMany_lineReads : s.setTooMany.lineReads = s.lineReads := rfl
@[simp] theorem setTooMany_timeScript : s.setTooMany.timeScript = s.timeScript := rfl
@[simp] theorem setTooMany_timeReads : s.setTooMany.timeReads = s.timeReads := rfl
@[simp] theorem setTooMany_timeCount : s.setTooMany.timeCount = s.timeCount := rfl

/-! ### `commitReading` -/

@[simp] theorem commitReading_phase (w : Word) : (s.commitReading w).phase = s.phase := rfl
@[simp] theorem commitReading_cmd (w : Word) : (s.commitReading w).cmd = s.cmd := rfl
@[simp] theorem commitReading_rdValid (w : Word) : (s.commitReading w).rdValid = true := rfl
@[simp] theorem commitReading_capTooMany (w : Word) : (s.commitReading w).capTooMany = s.capTooMany := rfl
@[simp] theorem commitReading_line (w : Word) : (s.commitReading w).line = s.line := rfl
@[simp] theorem commitReading_rdHInt (w : Word) : (s.commitReading w).rdHInt = s.pl[0] := rfl
@[simp] theorem commitReading_rdHDec (w : Word) : (s.commitReading w).rdHDec = s.pl[1] := rfl
@[simp] theorem commitReading_rdTInt (w : Word) : (s.commitReading w).rdTInt = s.pl[2] := rfl
@[simp] theorem commitReading_rdTDec (w : Word) : (s.commitReading w).rdTDec = s.pl[3] := rfl
@[simp] theorem commitReading_rdMeasuredAt (w : Word) : (s.commitReading w).rdMeasuredAt = w := rfl
@[simp] theorem commitReading_capLevel (w : Word) : (s.commitReading w).capLevel = s.capLevel := rfl
@[simp] theorem commitReading_capCount (w : Word) : (s.commitReading w).capCount = s.capCount := rfl
@[simp] theorem commitReading_capStall (w : Word) : (s.commitReading w).capStall = s.capStall := rfl
@[simp] theorem commitReading_capLastTs (w : Word) : (s.commitReading w).capLastTs = s.capLastTs := rfl
@[simp] theorem commitReading_holdStart (w : Word) : (s.commitReading w).holdStart = s.holdStart := rfl
@[simp] theorem commitReading_capBuf (w : Word) : (s.commitReading w).capBuf = s.capBuf := rfl
@[simp] theorem commitReading_pl (w : Word) : (s.commitReading w).pl = s.pl := rfl
@[simp] theorem commitReading_trace (w : Word) : (s.commitReading w).trace = s.trace := rfl
@[simp] theorem commitReading_responses (w : Word) : (s.commitReading w).responses = s.responses := rfl
@[simp] theorem commitReading_hostIn (w : Word) : (s.commitReading w).hostIn = s.hostIn := rfl
@[simp] theorem commitReading_hostProgram (w : Word) : (s.commitReading w).hostProgram = s.hostProgram := rfl
@[simp] theorem commitReading_lineTampered (w : Word) : (s.commitReading w).lineTampered = s.lineTampered := rfl
@[simp] theorem commitReading_portReq (w : Word) : (s.commitReading w).portReq = s.portReq := rfl
@[simp] theorem commitReading_lineScript (w : Word) : (s.commitReading w).lineScript = s.lineScript := rfl
@[simp] theorem commitReading_lineReads (w : Word) : (s.commitReading w).lineReads = s.lineReads := rfl
@[simp] theorem commitReading_timeScript (w : Word) : (s.commitReading w).timeScript = s.timeScript := rfl
@[simp] theorem commitReading_timeReads (w : Word) : (s.commitReading w).timeReads = s.timeReads := rfl
@[simp] theorem commitReading_timeCount (w : Word) : (s.commitReading w).timeCount = s.timeCount := rfl

/-! ### `recordTransition` -/

@[simp] theorem recordTransition_phase (w : Word) : (s.recordTransition w).phase = s.phase := rfl
@[simp] theorem recordTransition_cmd (w : Word) : (s.recordTransition w).cmd = s.cmd := rfl
@[simp] theorem recordTransition_rdValid (w : Word) : (s.recordTransition w).rdValid = s.rdValid := rfl
@[simp] theorem recordTransition_capTooMany (w : Word) : (s.recordTransition w).capTooMany = s.capTooMany := rfl
@[simp] theorem recordTransition_line (w : Word) : (s.recordTransition w).line = s.line := rfl
@[simp] theorem recordTransition_rdHInt (w : Word) : (s.recordTransition w).rdHInt = s.rdHInt := rfl
@[simp] theorem recordTransition_rdHDec (w : Word) : (s.recordTransition w).rdHDec = s.rdHDec := rfl
@[simp] theorem recordTransition_rdTInt (w : Word) : (s.recordTransition w).rdTInt = s.rdTInt := rfl
@[simp] theorem recordTransition_rdTDec (w : Word) : (s.recordTransition w).rdTDec = s.rdTDec := rfl
@[simp] theorem recordTransition_rdMeasuredAt (w : Word) : (s.recordTransition w).rdMeasuredAt = s.rdMeasuredAt := rfl
@[simp] theorem recordTransition_capLevel (w : Word) : (s.recordTransition w).capLevel = s.capLevel.toggle := rfl
@[simp] theorem recordTransition_capCount (w : Word) : (s.recordTransition w).capCount = s.capCount + 1 := rfl
@[simp] theorem recordTransition_capStall (w : Word) : (s.recordTransition w).capStall = 0 := rfl
@[simp] theorem recordTransition_capLastTs (w : Word) : (s.recordTransition w).capLastTs = w := rfl
@[simp] theorem recordTransition_holdStart (w : Word) : (s.recordTransition w).holdStart = s.holdStart := rfl
@[simp] theorem recordTransition_capBuf (w : Word) : (s.recordTransition w).capBuf = s.capBuf.setIfInBounds s.capCount (elapsedTicks w s.capLastTs) := rfl
@[simp] theorem recordTransition_pl (w : Word) : (s.recordTransition w).pl = s.pl := rfl
@[simp] theorem recordTransition_trace (w : Word) : (s.recordTransition w).trace = s.trace := rfl
@[simp] theorem recordTransition_responses (w : Word) : (s.recordTransition w).responses = s.responses := rfl
@[simp] theorem recordTransition_hostIn (w : Word) : (s.recordTransition w).hostIn = s.hostIn := rfl
@[simp] theorem recordTransition_hostProgram (w : Word) : (s.recordTransition w).hostProgram = s.hostProgram := rfl
@[simp] theorem recordTransition_lineTampered (w : Word) : (s.recordTransition w).lineTampered = s.lineTampered := rfl
@[simp] theorem recordTransition_portReq (w : Word) : (s.recordTransition w).portReq = s.portReq := rfl
@[simp] theorem recordTransition_lineScript (w : Word) : (s.recordTransition w).lineScript = s.lineScript := rfl
@[simp] theorem recordTransition_lineReads (w : Word) : (s.recordTransition w).lineReads = s.lineReads := rfl
@[simp] theorem recordTransition_timeScript (w : Word) : (s.recordTransition w).timeScript = s.timeScript := rfl
@[simp] theorem recordTransition_timeReads (w : Word) : (s.recordTransition w).timeReads = s.timeReads := rfl
@[simp] theorem recordTransition_timeCount (w : Word) : (s.recordTransition w).timeCount = s.timeCount := rfl

/-! ### `countStall` -/

@[simp] theorem countStall_phase : s.countStall.phase = s.phase := rfl
@[simp] theorem countStall_cmd : s.countStall.cmd = s.cmd := rfl
@[simp] theorem countStall_rdValid : s.countStall.rdValid = s.rdValid := rfl
@[simp] theorem countStall_capTooMany : s.countStall.capTooMany = s.capTooMany := rfl
@[simp] theorem countStall_line : s.countStall.line = s.line := rfl
@[simp] theorem countStall_rdHInt : s.countStall.rdHInt = s.rdHInt := rfl
@[simp] theorem countStall_rdHDec : s.countStall.rdHDec = s.rdHDec := rfl
@[simp] theorem countStall_rdTInt : s.countStall.rdTInt = s.rdTInt := rfl
@[simp] theorem countStall_rdTDec : s.countStall.rdTDec = s.rdTDec := rfl
@[simp] theorem countStall_rdMeasuredAt : s.countStall.rdMeasuredAt = s.rdMeasuredAt := rfl
@[simp] theorem countStall_capLevel : s.countStall.capLevel = s.capLevel := rfl
@[simp] theorem countStall_capCount : s.countStall.capCount = s.capCount := rfl
@[simp] theorem countStall_capStall : s.countStall.capStall = s.capStall + 1 := rfl
@[simp] theorem countStall_capLastTs : s.countStall.capLastTs = s.capLastTs := rfl
@[simp] theorem countStall_holdStart : s.countStall.holdStart = s.holdStart := rfl
@[simp] theorem countStall_capBuf : s.countStall.capBuf = s.capBuf := rfl
@[simp] theorem countStall_pl : s.countStall.pl = s.pl := rfl
@[simp] theorem countStall_trace : s.countStall.trace = s.trace := rfl
@[simp] theorem countStall_responses : s.countStall.responses = s.responses := rfl
@[simp] theorem countStall_hostIn : s.countStall.hostIn = s.hostIn := rfl
@[simp] theorem countStall_hostProgram : s.countStall.hostProgram = s.hostProgram := rfl
@[simp] theorem countStall_lineTampered : s.countStall.lineTampered = s.lineTampered := rfl
@[simp] theorem countStall_portReq : s.countStall.portReq = s.portReq := rfl
@[simp] theorem countStall_lineScript : s.countStall.lineScript = s.lineScript := rfl
@[simp] theorem countStall_lineReads : s.countStall.lineReads = s.lineReads := rfl
@[simp] theorem countStall_timeScript : s.countStall.timeScript = s.timeScript := rfl
@[simp] theorem countStall_timeReads : s.countStall.timeReads = s.timeReads := rfl
@[simp] theorem countStall_timeCount : s.countStall.timeCount = s.timeCount := rfl

/-! ### `setPayload` -/

@[simp] theorem setPayload_phase (v : Vector Byte Config.nBytes) : (s.setPayload v).phase = s.phase := rfl
@[simp] theorem setPayload_cmd (v : Vector Byte Config.nBytes) : (s.setPayload v).cmd = s.cmd := rfl
@[simp] theorem setPayload_rdValid (v : Vector Byte Config.nBytes) : (s.setPayload v).rdValid = s.rdValid := rfl
@[simp] theorem setPayload_capTooMany (v : Vector Byte Config.nBytes) : (s.setPayload v).capTooMany = s.capTooMany := rfl
@[simp] theorem setPayload_line (v : Vector Byte Config.nBytes) : (s.setPayload v).line = s.line := rfl
@[simp] theorem setPayload_rdHInt (v : Vector Byte Config.nBytes) : (s.setPayload v).rdHInt = s.rdHInt := rfl
@[simp] theorem setPayload_rdHDec (v : Vector Byte Config.nBytes) : (s.setPayload v).rdHDec = s.rdHDec := rfl
@[simp] theorem setPayload_rdTInt (v : Vector Byte Config.nBytes) : (s.setPayload v).rdTInt = s.rdTInt := rfl
@[simp] theorem setPayload_rdTDec (v : Vector Byte Config.nBytes) : (s.setPayload v).rdTDec = s.rdTDec := rfl
@[simp] theorem setPayload_rdMeasuredAt (v : Vector Byte Config.nBytes) : (s.setPayload v).rdMeasuredAt = s.rdMeasuredAt := rfl
@[simp] theorem setPayload_capLevel (v : Vector Byte Config.nBytes) : (s.setPayload v).capLevel = s.capLevel := rfl
@[simp] theorem setPayload_capCount (v : Vector Byte Config.nBytes) : (s.setPayload v).capCount = s.capCount := rfl
@[simp] theorem setPayload_capStall (v : Vector Byte Config.nBytes) : (s.setPayload v).capStall = s.capStall := rfl
@[simp] theorem setPayload_capLastTs (v : Vector Byte Config.nBytes) : (s.setPayload v).capLastTs = s.capLastTs := rfl
@[simp] theorem setPayload_holdStart (v : Vector Byte Config.nBytes) : (s.setPayload v).holdStart = s.holdStart := rfl
@[simp] theorem setPayload_capBuf (v : Vector Byte Config.nBytes) : (s.setPayload v).capBuf = s.capBuf := rfl
@[simp] theorem setPayload_pl (v : Vector Byte Config.nBytes) : (s.setPayload v).pl = v := rfl
@[simp] theorem setPayload_trace (v : Vector Byte Config.nBytes) : (s.setPayload v).trace = s.trace := rfl
@[simp] theorem setPayload_responses (v : Vector Byte Config.nBytes) : (s.setPayload v).responses = s.responses := rfl
@[simp] theorem setPayload_hostIn (v : Vector Byte Config.nBytes) : (s.setPayload v).hostIn = s.hostIn := rfl
@[simp] theorem setPayload_hostProgram (v : Vector Byte Config.nBytes) : (s.setPayload v).hostProgram = s.hostProgram := rfl
@[simp] theorem setPayload_lineTampered (v : Vector Byte Config.nBytes) : (s.setPayload v).lineTampered = s.lineTampered := rfl
@[simp] theorem setPayload_portReq (v : Vector Byte Config.nBytes) : (s.setPayload v).portReq = s.portReq := rfl
@[simp] theorem setPayload_lineScript (v : Vector Byte Config.nBytes) : (s.setPayload v).lineScript = s.lineScript := rfl
@[simp] theorem setPayload_lineReads (v : Vector Byte Config.nBytes) : (s.setPayload v).lineReads = s.lineReads := rfl
@[simp] theorem setPayload_timeScript (v : Vector Byte Config.nBytes) : (s.setPayload v).timeScript = s.timeScript := rfl
@[simp] theorem setPayload_timeReads (v : Vector Byte Config.nBytes) : (s.setPayload v).timeReads = s.timeReads := rfl
@[simp] theorem setPayload_timeCount (v : Vector Byte Config.nBytes) : (s.setPayload v).timeCount = s.timeCount := rfl

end Sys2Proof.Machine.State
end

