-- ==== Sys2Proof/Laws/Ops.lean ====
section
/-! SUPPORT. What each shared operation does, said once: the draws, the elapsed time, a poll, the host's offer. -/

namespace Sys2Proof.Machine

namespace State

variable (s : State)

/-! ### An operation that does not read the time (the line) leaves its draw as it was (R46) -/

@[simp] theorem goto_drawCount (p : Phase) : (s.goto p).drawCount = s.drawCount := rfl
@[simp] theorem goto_drawTime (p : Phase) : (s.goto p).drawTime = s.drawTime := rfl
@[simp] theorem goto_drawElapsed (p : Phase) (w : Word) : (s.goto p).drawElapsed w = s.drawElapsed w := rfl
@[simp] theorem takeHostIn_drawCount : s.takeHostIn.drawCount = s.drawCount := rfl
@[simp] theorem takeHostIn_drawTime : s.takeHostIn.drawTime = s.drawTime := rfl
@[simp] theorem takeHostIn_drawElapsed (w : Word) : s.takeHostIn.drawElapsed w = s.drawElapsed w := rfl
@[simp] theorem takePort_drawCount : s.takePort.drawCount = s.drawCount := rfl
@[simp] theorem takePort_drawTime : s.takePort.drawTime = s.drawTime := rfl
@[simp] theorem takePort_drawElapsed (w : Word) : s.takePort.drawElapsed w = s.drawElapsed w := rfl
@[simp] theorem takeProgram_drawCount (ws : List Byte) : (s.takeProgram ws).drawCount = s.drawCount := rfl
@[simp] theorem takeProgram_drawTime (ws : List Byte) : (s.takeProgram ws).drawTime = s.drawTime := rfl
@[simp] theorem takeProgram_drawElapsed (ws : List Byte) (w : Word) : (s.takeProgram ws).drawElapsed w = s.drawElapsed w := rfl
@[simp] theorem accept_drawCount (c : HostCmd) : (s.accept c).drawCount = s.drawCount := rfl
@[simp] theorem accept_drawTime (c : HostCmd) : (s.accept c).drawTime = s.drawTime := rfl
@[simp] theorem accept_drawElapsed (c : HostCmd) (w : Word) : (s.accept c).drawElapsed w = s.drawElapsed w := rfl
@[simp] theorem setOutput_drawCount (p : Pull) : (s.setOutput p).drawCount = s.drawCount := rfl
@[simp] theorem setOutput_drawTime (p : Pull) : (s.setOutput p).drawTime = s.drawTime := rfl
@[simp] theorem setOutput_drawElapsed (p : Pull) (w : Word) : (s.setOutput p).drawElapsed w = s.drawElapsed w := rfl
@[simp] theorem setInput_drawCount (p : Pull) : (s.setInput p).drawCount = s.drawCount := rfl
@[simp] theorem setInput_drawTime (p : Pull) : (s.setInput p).drawTime = s.drawTime := rfl
@[simp] theorem setInput_drawElapsed (p : Pull) (w : Word) : (s.setInput p).drawElapsed w = s.drawElapsed w := rfl
@[simp] theorem writeLine_drawCount (l : Level) : (s.writeLine l).drawCount = s.drawCount := rfl
@[simp] theorem writeLine_drawTime (l : Level) : (s.writeLine l).drawTime = s.drawTime := rfl
@[simp] theorem writeLine_drawElapsed (l : Level) (w : Word) : (s.writeLine l).drawElapsed w = s.drawElapsed w := rfl
@[simp] theorem readLine_drawCount : s.readLine.drawCount = s.drawCount := rfl
@[simp] theorem readLine_drawTime : s.readLine.drawTime = s.drawTime := rfl
@[simp] theorem readLine_drawElapsed (w : Word) : s.readLine.drawElapsed w = s.drawElapsed w := rfl
@[simp] theorem goto_drawLevel (p : Phase) : (s.goto p).drawLevel = s.drawLevel := rfl
@[simp] theorem takeHostIn_drawLevel : s.takeHostIn.drawLevel = s.drawLevel := rfl
@[simp] theorem takePort_drawLevel : s.takePort.drawLevel = s.drawLevel := rfl
@[simp] theorem takeProgram_drawLevel (ws : List Byte) : (s.takeProgram ws).drawLevel = s.drawLevel := rfl
@[simp] theorem accept_drawLevel (c : HostCmd) : (s.accept c).drawLevel = s.drawLevel := rfl
@[simp] theorem setOutput_drawLevel (p : Pull) : (s.setOutput p).drawLevel = s.drawLevel := rfl
@[simp] theorem setInput_drawLevel (p : Pull) : (s.setInput p).drawLevel = s.drawLevel := rfl
@[simp] theorem writeLine_drawLevel (l : Level) : (s.writeLine l).drawLevel = s.drawLevel := rfl
@[simp] theorem readTime_drawLevel : s.readTime.drawLevel = s.drawLevel := rfl

/-- The count never goes back (R78). -/
theorem timeCount_le_drawCount : s.timeCount ≤ s.drawCount := Nat.le_add_right _ _

end State

/-! ### The elapsed time (R76) -/

/-- The result is the integer `(t - since) mod 2^32` of R76. -/
theorem elapsedTicks_toNat (t since : Word) :
    (elapsedTicks t since).toNat = (t.toNat + 2 ^ 32 - since.toNat) % 2 ^ 32 := by
  simp only [elapsedTicks, BitVec.toNat_sub]
  omega

/-- What `TIME_ELAPSED` returns, by the count `T` it has read (R76, R78). -/
theorem State.drawElapsed_eq (s : State) (w : Word) : s.drawElapsed w = BitVec.ofNat 32 s.drawCount - w := rfl

/-- Across any number of wraps, the elapsed time of two reads of the count is its advance modulo 2^32. -/
theorem elapsedTicks_ofNat (T d : Nat) :
    (elapsedTicks (BitVec.ofNat 32 (T + d)) (BitVec.ofNat 32 T)).toNat = d % 2 ^ 32 := by
  simp only [elapsedTicks_toNat, BitVec.toNat_ofNat]
  omega

/-- The elapsed time since an earlier value of the count is at most what the count has advanced. -/
theorem elapsedTicks_le (T T' : Nat) (h : T ≤ T') :
    (elapsedTicks (BitVec.ofNat 32 T') (BitVec.ofNat 32 T)).toNat ≤ T' - T := by
  obtain ⟨d, rfl⟩ := Nat.exists_eq_add_of_le h
  rw [elapsedTicks_ofNat, Nat.add_sub_cancel_left]
  exact Nat.mod_le _ _

/-! ### A poll (R87) -/

/-- The three ways of a poll. -/
theorem pollWith_cases (s : State) (l : Level) (t : Word) :
    (l ≠ s.capLevel ∧ s.capCount = Config.nTrans ∧ s.pollWith l t = s.setTooMany.goto .release) ∨
    (l ≠ s.capLevel ∧ s.capCount ≠ Config.nTrans ∧ s.pollWith l t = (s.recordTransition t).goto .poll) ∨
    (l = s.capLevel ∧ s.pollWith l t =
      s.countStall.goto (if Config.stallLimit < s.capStall + 1 then .release else .poll)) := by
  unfold State.pollWith
  by_cases hl : l = s.capLevel
  · simp [hl]
  · by_cases hc : s.capCount = Config.nTrans <;> simp [hl, hc]

theorem Level.eq_toggle_of_ne {l m : Level} (h : l ≠ m) : l = m.toggle := by
  cases l <;> cases m <;> simp_all [Level.toggle]

/-! ### What the host offers (R98) -/

/-- A word is offered outright, or it is the next of the host's program in `IDLE`. -/
theorem hostOffer_cases {s rest : State} {w : Byte} (h : s.hostOffer = some (w, rest)) :
    (s.hostIn = some w ∧ rest = s.takeHostIn) ∨
    (s.hostIn = none ∧ s.phase = .idle ∧ ∃ ws, s.hostProgram = w :: ws ∧ rest = s.takeProgram ws) := by
  unfold State.hostOffer at h
  split at h
  · rename_i w' hin
    simp only [Option.some.injEq, Prod.mk.injEq] at h
    exact .inl ⟨hin.trans (congrArg some h.1), h.2.symm⟩
  · rename_i hin
    split at h
    · rename_i hp
      split at h
      · cases h
      · rename_i w' ws hprog
        simp only [Option.some.injEq, Prod.mk.injEq] at h
        obtain ⟨rfl, rfl⟩ := h
        exact .inr ⟨hin, hp, ws, hprog, rfl⟩
    · cases h

/-- Outside `IDLE` only a word offered outright is an offer. -/
theorem hostOffer_eq_none {s : State} (hin : s.hostIn = none) (hp : s.phase ≠ .idle) : s.hostOffer = none := by
  simp [State.hostOffer, hin, hp]

/-- With nothing offered outright and no program, nothing is offered. -/
theorem hostOffer_eq_none_of_program {s : State} (hin : s.hostIn = none) (hprog : s.hostProgram = []) :
    s.hostOffer = none := by
  simp [State.hostOffer, hin, hprog]

/-- The host's word is taken from where it was offered, and nothing else of the state is touched. -/
theorem hostOffer_rest {s rest : State} {w : Byte} (h : s.hostOffer = some (w, rest)) :
    rest = s.takeHostIn ∨ ∃ ws, rest = s.takeProgram ws := by
  obtain ⟨-, rfl⟩ | ⟨-, -, ws, -, rfl⟩ := hostOffer_cases h
  · exact .inl rfl
  · exact .inr ⟨ws, rfl⟩

theorem hostOffer_of_hostIn {s : State} {w : Byte} (hin : s.hostIn = some w) :
    s.hostOffer = some (w, s.takeHostIn) := by
  simp [State.hostOffer, hin]

/-! ### Commands and their words -/

@[simp] theorem hostCommandOf_word (c : HostCmd) : hostCommandOf c.word = some c := by
  cases c <;> rfl

theorem hostCommandOf_eq_some {w : Byte} {c : HostCmd} (h : hostCommandOf w = some c) : w = c.word := by
  revert w c
  decide

/-- The host command words are exactly 0x01 to 0x04 (R58). -/
theorem hostCommandOf_eq_none_iff (w : Byte) : hostCommandOf w = none ↔ w.toNat = 0 ∨ 4 < w.toNat := by
  revert w
  decide

theorem offerCommand_eq_next {c : HostCmd} {s t : State} (h : offerCommand c s = .next t) :
    s.phase = .idle ∧ t = s.accept c := by
  unfold offerCommand at h
  split at h
  · rename_i hp
    exact ⟨hp, by cases h; rfl⟩
  · cases h

end Sys2Proof.Machine
end

