-- ==== Sys2Proof/Laws/PerInstr.lean ====
section
/-! SUPPORT. Statements made per instruction: the round trip of each operation's word. -/

namespace Sys2Proof.Laws

/-- Decoding the word of an operation gives the operation back (R57 to R61). -/
def RoundTrip.Statement (i : Instr) : Prop := decodeWord (encode i) = .ok i

theorem RoundTrip.measure : RoundTrip.Statement .measure := rfl
theorem RoundTrip.readTemperature : RoundTrip.Statement .readTemperature := rfl
theorem RoundTrip.readHumidity : RoundTrip.Statement .readHumidity := rfl
theorem RoundTrip.readReading : RoundTrip.Statement .readReading := rfl
theorem RoundTrip.idle : RoundTrip.Statement .idle := rfl
theorem RoundTrip.check : RoundTrip.Statement .check := rfl
theorem RoundTrip.initHigh : RoundTrip.Statement .initHigh := rfl
theorem RoundTrip.holdHigh : RoundTrip.Statement .holdHigh := rfl
theorem RoundTrip.initLow : RoundTrip.Statement .initLow := rfl
theorem RoundTrip.holdLow : RoundTrip.Statement .holdLow := rfl
theorem RoundTrip.arm : RoundTrip.Statement .arm := rfl
theorem RoundTrip.poll : RoundTrip.Statement .poll := rfl
theorem RoundTrip.release : RoundTrip.Statement .release := rfl
theorem RoundTrip.finish : RoundTrip.Statement .finish := rfl
theorem RoundTrip.decode : RoundTrip.Statement .decode := rfl
theorem RoundTrip.validate : RoundTrip.Statement .validate := rfl
theorem RoundTrip.commit : RoundTrip.Statement .commit := rfl
theorem RoundTrip.answer : RoundTrip.Statement .answer := rfl
theorem RoundTrip.gpioSetOutput (p : Pull) : RoundTrip.Statement (.gpioSetOutput p) := by cases p <;> rfl
theorem RoundTrip.gpioSetInput (p : Pull) : RoundTrip.Statement (.gpioSetInput p) := by cases p <;> rfl
theorem RoundTrip.gpioWrite (l : Level) : RoundTrip.Statement (.gpioWrite l) := by cases l <;> rfl
theorem RoundTrip.gpioRead : RoundTrip.Statement .gpioRead := rfl
theorem RoundTrip.timeNow : RoundTrip.Statement .timeNow := rfl
theorem RoundTrip.timeElapsed : RoundTrip.Statement .timeElapsed := rfl

end Sys2Proof.Laws
end

