-- ==== Sys2Proof/Laws/Step.lean ====
section
/-! SUPPORT. What a step can do, said once: where its operation comes from, and what each phase makes of the state. -/

namespace Sys2Proof.Machine

open Sys2Proof.Laws

theorem decodeWord_phase (p : Phase) : decodeWord p.word = .ok p.instr := by cases p <;> rfl

theorem decodeWord_command (c : HostCmd) : decodeWord c.word = .ok c.instr := by cases c <;> rfl

theorem decodeWord_port (op : PortOp) : decodeWord op.word = .ok op.instr := by
  cases op with
  | setOutput p => exact RoundTrip.gpioSetOutput p
  | setInput p => exact RoundTrip.gpioSetInput p
  | write l => exact RoundTrip.gpioWrite l
  | read => rfl
  | now => rfl
  | elapsed => rfl

theorem wellFormed_phase (p : Phase) : p.instr.wellFormed .block = true := by cases p <;> rfl

theorem wellFormed_command (c : HostCmd) : c.instr.wellFormed .host = true := by cases c <;> rfl

theorem wellFormed_port (op : PortOp) : op.instr.wellFormed .block = true := by cases op <;> rfl

theorem exec_command (c : HostCmd) (s : State) : exec c.instr s = offerCommand c s := by cases c <;> rfl

/-- The step refuses every host word that names no host command (R67). -/
theorem step_reserved_aux {w : Byte} (h : hostCommandOf w = none) :
    ∀ i, decodeWord w = .ok i → i.wellFormed .host = false := by
  intro i hi
  unfold hostCommandOf at h
  rw [hi] at h
  cases i <;> first | rfl | (simp [Instr.kind] at h)

section step

variable {s t : State}

theorem step_tampered (h : s.lineTampered = true) : step s = .refused .lineOwnershipBroken := by
  simp [step, h]

/-- A lone port operation. -/
theorem step_port {op : PortOp} (ht : s.lineTampered = false) (hp : s.portReq = some op) :
    step s = exec op.instr s.takePort := by
  have hf : fetch s = ⟨.block, op.word, s.takePort⟩ := by simp [fetch, hp]
  simp [step, ht, hf, decodeWord_port, wellFormed_port]

/-- A host command. -/
theorem step_command {c : HostCmd} {rest : State} (ht : s.lineTampered = false) (hp : s.portReq = none)
    (ho : s.hostOffer = some (c.word, rest)) : step s = offerCommand c rest := by
  have hf : fetch s = ⟨.host, c.word, rest⟩ := by simp [fetch, hp, ho]
  simp [step, ht, hf, decodeWord_command, wellFormed_command, exec_command]

/-- A host word that is no command. -/
theorem step_reserved {w : Byte} {rest : State} (ht : s.lineTampered = false) (hp : s.portReq = none)
    (ho : s.hostOffer = some (w, rest)) (hw : hostCommandOf w = none) : step s = .refused (.reservedHostWord w) := by
  have hf : fetch s = ⟨.host, w, rest⟩ := by simp [fetch, hp, ho]
  cases hd : decodeWord w with
  | error e => simp [step, ht, hf, hd]
  | ok i => simp [step, ht, hf, hd, step_reserved_aux hw i hd]

/-- The operation of the phase. -/
theorem step_phase (ht : s.lineTampered = false) (hp : s.portReq = none) (ho : s.hostOffer = none) :
    step s = exec s.phase.instr s := by
  have hf : fetch s = ⟨.block, s.phase.word, s⟩ := by simp [fetch, hp, ho]
  simp [step, ht, hf, decodeWord_phase, wellFormed_phase]

/-- Where a step that goes on comes from. -/
theorem step_cases (h : step s = .next t) :
    s.lineTampered = false ∧
      ((∃ op, s.portReq = some op ∧ exec op.instr s.takePort = .next t) ∨
      (s.portReq = none ∧ s.phase = .idle ∧ ∃ c rest, s.hostOffer = some (c.word, rest) ∧ t = rest.accept c) ∨
      (s.portReq = none ∧ s.hostOffer = none ∧ exec s.phase.instr s = .next t)) := by
  have ht : s.lineTampered = false := by
    rw [Bool.eq_false_iff]
    intro ht
    rw [step_tampered ht] at h
    cases h
  refine ⟨ht, ?_⟩
  obtain hp | ⟨op, hp⟩ := Option.eq_none_or_eq_some s.portReq
  · obtain ho | ⟨⟨w, rest⟩, ho⟩ := Option.eq_none_or_eq_some s.hostOffer
    · exact .inr (.inr ⟨hp, ho, step_phase ht hp ho ▸ h⟩)
    · obtain hc | ⟨c, hc⟩ := Option.eq_none_or_eq_some (hostCommandOf w)
      · rw [step_reserved ht hp ho hc] at h
        cases h
      · obtain rfl := hostCommandOf_eq_some hc
        rw [step_command ht hp ho] at h
        obtain ⟨hi, rfl⟩ := offerCommand_eq_next h
        refine .inr (.inl ⟨hp, ?_, c, rest, ho, rfl⟩)
        obtain ⟨-, rfl⟩ | ⟨-, hi', -⟩ := hostOffer_cases ho
        · exact hi
        · exact hi'
  · exact .inl ⟨op, hp, step_port ht hp ▸ h⟩

end step

/-! ### What each phase makes of the state -/

section phases

variable {s t : State}

/-- The state after a port operation issued alone, in a direction it may be issued in. -/
def portEffect (op : PortOp) (s : State) : State :=
  match op with
  | .setOutput p => s.setOutput p
  | .setInput p => s.setInput p
  | .write l => s.writeLine l
  | .read => s.readLine
  | .now => s.readTime
  | .elapsed => s.readElapsed s.sinceOperand

/-- A port operation issued alone has its effect in the direction it needs, if it needs one, and is refused in the
other (R71 to R76, U3). -/
theorem exec_port_cases (op : PortOp) (s : State) :
    ((∀ d, op.needs = some d → s.line.dir = d) ∧ exec op.instr s = .next (portEffect op s)) ∨
    (∃ d, op.needs = some d ∧ s.line.dir ≠ d ∧ ∃ r, exec op.instr s = .refused r) := by
  cases op with
  | write l =>
    by_cases h : s.line.dir = .output
    · exact .inl ⟨by simp [PortOp.needs, h], if_pos h⟩
    · exact .inr ⟨.output, rfl, h, _, if_neg h⟩
  | read =>
    by_cases h : s.line.dir = .input
    · exact .inl ⟨by simp [PortOp.needs, h], if_pos h⟩
    · exact .inr ⟨.input, rfl, h, _, if_neg h⟩
  | setOutput p => exact .inl ⟨by simp [PortOp.needs], rfl⟩
  | setInput p => exact .inl ⟨by simp [PortOp.needs], rfl⟩
  | now => exact .inl ⟨by simp [PortOp.needs], rfl⟩
  | elapsed => exact .inl ⟨by simp [PortOp.needs], rfl⟩

theorem exec_port_eq_next {op : PortOp} (h : exec op.instr s = .next t) : t = portEffect op s := by
  obtain ⟨-, he⟩ | ⟨-, -, -, r, he⟩ := exec_port_cases op s <;> rw [he] at h <;> cases h
  rfl

theorem exec_port_ne_fault {op : PortOp} {f : Fault} : exec op.instr s ≠ .fault f := by
  obtain ⟨-, he⟩ | ⟨-, -, -, r, he⟩ := exec_port_cases op s <;> simp [he]

/-- `IDLE` with nothing offered only waits (R98). -/
theorem exec_idle_waits (ho : s.hostOffer = none) : exec .idle s = .next s := by
  simp [exec, execIdle, ho]

theorem exec_check_invalid (h : s.rdValid = false) : exec .check s = .next (s.goto .initHigh) := by
  simp [exec, execCheck, h]

theorem exec_check_valid (h : s.rdValid = true) :
    exec .check s = .next ((s.readElapsed s.rdMeasuredAt).goto
      (if (s.drawElapsed s.rdMeasuredAt).toNat < Config.minIntervalUs then .answer else .initHigh)) := by
  simp [exec, execCheck, h]

theorem exec_poll_fault (hc : Config.nTrans < s.capCount) (hl : s.drawLevel ≠ s.capLevel) :
    exec .poll s = .fault .captureIndexOutOfRange := by
  simp [exec, execPoll, hc, hl]

theorem exec_poll_next (h : s.capCount ≤ Config.nTrans) :
    exec .poll s = .next (s.readLine.readTime.pollWith s.drawLevel s.readLine.drawTime) := by
  simp only [exec, execPoll]
  rw [if_neg]
  omega

/-- A poll that goes on is one of the three of R87. -/
theorem exec_poll_cases (h : exec .poll s = .next t) :
    (s.drawLevel ≠ s.capLevel ∧ s.capCount = Config.nTrans ∧ t = s.readLine.readTime.setTooMany.goto .release) ∨
    (s.drawLevel ≠ s.capLevel ∧ s.capCount < Config.nTrans ∧
      t = (s.readLine.readTime.recordTransition s.readLine.drawTime).goto .poll) ∨
    (s.drawLevel = s.capLevel ∧
      t = s.readLine.readTime.countStall.goto (if Config.stallLimit < s.capStall + 1 then .release else .poll)) := by
  simp only [exec, execPoll] at h
  split at h
  · cases h
  · rename_i hn
    cases h
    obtain ⟨hl, hc, he⟩ | ⟨hl, hc, he⟩ | ⟨hl, he⟩ :=
      pollWith_cases s.readLine.readTime s.drawLevel s.readLine.drawTime
    · exact .inl ⟨hl, hc, he⟩
    · refine .inr (.inl ⟨hl, ?_, he⟩)
      simp only [State.readTime_capCount, State.readLine_capCount] at hc
      by_contra hge
      exact hn ⟨by omega, hl⟩
    · exact .inr (.inr ⟨hl, he⟩)

/-- The three ways of `FINISH` (R91). -/
theorem exec_finish_cases (s : State) :
    (s.capTooMany = true ∧ exec .finish s = .next (s.raise .tooManyPulses)) ∨
    (s.capTooMany = false ∧ s.capCount ≠ Config.nTrans ∧
      exec .finish s = .next (s.raise (.wrongPulseCount Config.nTrans s.capCount))) ∨
    (s.capTooMany = false ∧ s.capCount = Config.nTrans ∧ exec .finish s = .next (s.goto .decode)) := by
  cases h : s.capTooMany
  · by_cases hc : s.capCount = Config.nTrans
    · exact .inr (.inr ⟨rfl, hc, by simp [exec, execFinish, h, hc]⟩)
    · exact .inr (.inl ⟨rfl, hc, by simp [exec, execFinish, h, hc]⟩)
  · exact .inl ⟨rfl, by simp [exec, execFinish, h]⟩

/-- The two ways of `VALIDATE` (R97). -/
theorem exec_validate_cases (s : State) :
    (sum8 s.pl = s.pl[4] ∧ exec .validate s = .next (s.goto .commit)) ∨
    (sum8 s.pl ≠ s.pl[4] ∧ exec .validate s = .next (s.raise .invalidChecksum)) := by
  by_cases h : sum8 s.pl = s.pl[4]
  · exact .inl ⟨h, by simp [exec, execValidate, h]⟩
  · exact .inr ⟨h, by simp [exec, execValidate, h]⟩

end phases

end Sys2Proof.Machine
end

