-- ==== Sys2Proof/Laws/Payload.lean ====
section
/-! SUPPORT. The decoder, the checksum, the value function and the response words as numbers. -/

namespace Sys2Proof.Machine

/-- A concatenation as a number: the more significant part times the weight of the other. -/
theorem append_toNat {n m : Nat} (x : BitVec n) (y : BitVec m) : (x ++ y).toNat = x.toNat * 2 ^ m + y.toNat := by
  rw [BitVec.toNat_append, ← Nat.shiftLeft_add_eq_or_of_lt y.isLt, Nat.shiftLeft_eq]

/-! ### The decoder (R92 to R95) -/

/-- The data entry of a bit in range is a recorded duration (R44, R92). -/
theorem dataEntry_eq (buf : Vector Word Config.nTrans) (k : Fin 40) : dataEntry buf k.val = dataDuration buf k := by
  have hk := k.isLt
  have hi : 1 + 2 * k.val + 4 = 5 + 2 * k.val := by omega
  have hlt : 5 + 2 * k.val < 84 := by omega
  show (buf[1 + 2 * k.val + 4]?).getD 0#32 = _
  simp only [hi]
  rw [Vector.getElem?_eq_getElem hlt]
  rfl

theorem classify_of_gt {d : Word} (h : 50 < d.toNat) : classify d = 1#1 := if_pos h

theorem classify_of_le {d : Word} (h : d.toNat ≤ 50) : classify d = 0#1 := if_neg (Nat.not_lt.mpr h)

theorem classify_getLsbD (d : Word) : (classify d).getLsbD 0 = decide (50 < d.toNat) := by
  by_cases h : 50 < d.toNat
  · simp [classify_of_gt h, h]
  · simp [classify_of_le (Nat.not_lt.mp h), h]

theorem payloadBit_eq (buf : Vector Word Config.nTrans) (k : Fin 40) :
    payloadBit buf k.val = classify (dataDuration buf k) := congrArg classify (dataEntry_eq buf k)

/-- A byte of the payload is the sum of its bits' weights (R94). -/
theorem payloadByte_toNat (buf : Vector Word Config.nTrans) (j : Nat) :
    (payloadByte buf j).toNat = (payloadBit buf (8 * j)).toNat * 128 + (payloadBit buf (8 * j + 1)).toNat * 64 +
      (payloadBit buf (8 * j + 2)).toNat * 32 + (payloadBit buf (8 * j + 3)).toNat * 16 +
      (payloadBit buf (8 * j + 4)).toNat * 8 + (payloadBit buf (8 * j + 5)).toNat * 4 +
      (payloadBit buf (8 * j + 6)).toNat * 2 + (payloadBit buf (8 * j + 7)).toNat := by
  unfold payloadByte
  rw [append_toNat, append_toNat, append_toNat, append_toNat, append_toNat, append_toNat, append_toNat]
  omega

/-- Bit `7 - i` of a byte of the payload is bit `i` of its eight in decoding order (R94). -/
theorem payloadByte_getLsbD (buf : Vector Word Config.nTrans) (j : Nat) (i : Fin 8) :
    (payloadByte buf j).getLsbD (7 - i.val) = (payloadBit buf (8 * j + i.val)).getLsbD 0 := by
  unfold payloadByte
  fin_cases i <;> simp only [BitVec.getLsbD_append] <;> simp

/-! ### The tracked level (R87) -/

/-- A recorded transition toggles it. -/
theorem trackedLevel_toggle (n : Nat) : (trackedLevel n).toggle = trackedLevel (n + 1) := by
  unfold trackedLevel
  obtain h | h := Nat.mod_two_eq_zero_or_one n
  · have h' : (n + 1) % 2 = 1 := by omega
    simp [h, h']
  · have h' : (n + 1) % 2 = 0 := by omega
    simp [h, h', Level.toggle]

/-! ### The checksum (R96, R97) -/

/-- The comparison of `VALIDATE` as one of numbers. -/
theorem sum8_eq_iff (pl : Vector Byte Config.nBytes) (b : Byte) :
    sum8 pl = b ↔ (pl[0].toNat + pl[1].toNat + pl[2].toNat + pl[3].toNat) % 256 = b.toNat := by
  rw [← BitVec.toNat_inj]
  simp [sum8]

/-! ### The response words (R62) -/

theorem okValueWord_toNat (v : BitVec 16) : (okValueWord v).toNat = v.toNat * 2 ^ 8 := by
  unfold okValueWord
  rw [append_toNat, append_toNat]
  simp

theorem okReadingWord_toNat (t h : BitVec 16) (w : Word) :
    (okReadingWord t h w).toNat = t.toNat * 2 ^ 8 + h.toNat * 2 ^ 24 + w.toNat * 2 ^ 40 := by
  unfold okReadingWord
  rw [append_toNat, append_toNat, append_toNat]
  simp
  omega

/-- Every response of `ANSWER` has status `OK` (R101). -/
theorem statusOf_answerWord (s : State) : statusOf s.answerWord = 0x00#8 := by
  apply BitVec.eq_of_toNat_eq
  unfold State.answerWord
  split <;> simp [statusOf, okWord, okValueWord_toNat, okReadingWord_toNat]
  omega

/-- The status of `WrongPulseCount`, whatever its fields (R62, R110). -/
theorem statusOf_wrongPulseCount (expected actual : Nat) :
    statusOf (SensorError.wrongPulseCount expected actual).word = 0x02#8 := by
  apply BitVec.eq_of_toNat_eq
  rw [statusOf, BitVec.extractLsb'_toNat, SensorError.word, append_toNat]
  simp

/-- No error's response has status `OK` (R62, R109 to R111). -/
theorem statusOf_word_ne (e : SensorError) : statusOf e.word ≠ 0x00#8 := by
  cases e with
  | tooManyPulses => decide
  | invalidChecksum => decide
  | wrongPulseCount expected actual =>
    rw [statusOf_wrongPulseCount]
    decide

/-- The two errors of a capture answer differently (R62, R109, R110). -/
theorem tooManyPulses_word_ne (expected actual : Nat) :
    SensorError.tooManyPulses.word ≠ (SensorError.wrongPulseCount expected actual).word := by
  intro h
  have hs := congrArg statusOf h
  rw [statusOf_wrongPulseCount] at hs
  exact absurd hs (by decide)

end Sys2Proof.Machine
end

