-- ==== Sys2Proof/Laws/Run.lean ====
section
/-! SUPPORT. Runs: steps put together, the induction along a run packaged once, and the steps of an undisturbed
command. -/

namespace Sys2Proof.Machine

variable {s t u : State} {k : Nat}

theorem runs_zero (s : State) : Runs 0 s s := rfl

theorem runs_zero_iff : Runs 0 s t ↔ t = s := by
  constructor
  · intro h
    cases h
    rfl
  · rintro rfl
    rfl

/-- The first step of a run, and the run from there. -/
theorem runs_succ_iff : Runs (k + 1) s u ↔ ∃ t, step s = .next t ∧ Runs k t u := by
  have hcore : core.step s = step s := rfl
  unfold Runs
  simp only [Host.Core.run, hcore]
  cases hs : step s with
  | next t => simp
  | fault f => simp
  | refused r => simp

theorem runs_cons (h : step s = .next t) (hr : Runs k t u) : Runs (k + 1) s u := runs_succ_iff.mpr ⟨t, h, hr⟩

/-- Two runs one after the other. -/
theorem runs_append {j : Nat} (h : Runs j s t) (hr : Runs k t u) : Runs (j + k) s u := by
  induction j generalizing s with
  | zero =>
    obtain rfl := runs_zero_iff.mp h
    rwa [Nat.zero_add]
  | succ j ih =>
    obtain ⟨v, hv, hr'⟩ := runs_succ_iff.mp h
    rw [Nat.add_right_comm]
    exact runs_cons hv (ih hr')

/-- A run is a function: the same number of steps ends in the same state. -/
theorem runs_unique (h : Runs k s t) (h' : Runs k s u) : t = u := by
  unfold Runs at h h'
  rw [h] at h'
  cases h'
  rfl

/-- What holds of a state and is kept by every step holds along every run from it. -/
theorem runs_induction {P : State → Prop} (hstep : ∀ s t, P s → step s = .next t → P t) (h0 : P s)
    (hr : Runs k s t) : P t := by
  induction k generalizing s with
  | zero =>
    obtain rfl := runs_zero_iff.mp hr
    exact h0
  | succ k ih =>
    obtain ⟨v, hv, hr'⟩ := runs_succ_iff.mp hr
    exact ih (hstep s v h0 hv) hr'

/-- Once the offered word has been taken, the host offers none outright (R133). -/
theorem hostOffer_quiet {rest : State} {w : Byte} (ho : s.hostOffer = some (w, rest)) (ht : s.lineTampered = false)
    (hp : s.portReq = none) : rest.Quiet := by
  obtain ⟨-, rfl⟩ | ⟨hin, -, ws, -, rfl⟩ := hostOffer_cases ho
  · exact ⟨ht, hp, rfl⟩
  · exact ⟨ht, hp, hin⟩

/-- The step of an undisturbed command is the operation of its phase (R28). -/
theorem step_quiet {p : Phase} (hq : s.Quiet) (hp : s.phase = p) (hne : p ≠ .idle) : step s = exec p.instr s := by
  subst hp
  exact step_phase hq.1 hq.2.1 (hostOffer_eq_none hq.2.2 hne)

end Sys2Proof.Machine
end

