-- ==== Sys2Proof/Tests/Slice0.lean ====
section
/-! SUPPORT. Tests: words written out from the spec's tables, the issuer check, one step of each operation against a
vector of spec/95_test_vectors.md (cited by its id), and a witness for the hypotheses of each statement. -/

namespace Sys2Proof.Tests

open Sys2Proof Sys2Proof.Machine

/-! ### Decoding: words written out bit by bit from R57 to R61 -/

theorem test_decode_measure : decodeWord 0b00_000001#8 = .ok .measure := by decide
theorem test_decode_readReading : decodeWord 0b00_000100#8 = .ok .readReading := by decide
theorem test_decode_initHigh : decodeWord 0b01_000010#8 = .ok .initHigh := by decide
theorem test_decode_answer : decodeWord 0b01_001101#8 = .ok .answer := by decide
theorem test_decode_setOutputDown : decodeWord 0b10_00000_0#8 = .ok (.gpioSetOutput .down) := by decide
theorem test_decode_setInputUp : decodeWord 0b10_00001_1#8 = .ok (.gpioSetInput .up) := by decide
theorem test_decode_writeHigh : decodeWord 0b10_00010_1#8 = .ok (.gpioWrite .high) := by decide
theorem test_decode_timeElapsed : decodeWord 0b10_001001#8 = .ok .timeElapsed := by decide

/-- The reserved words beside the legal ones of each class (R58 to R60). -/
theorem test_decode_reserved :
    decodeWord 0x00#8 = .error (.reservedHost 0x00#8) ∧ decodeWord 0x05#8 = .error (.reservedHost 0x05#8) ∧
      decodeWord 0x4E#8 = .error (.reservedInternal 0x4E#8) ∧ decodeWord 0x87#8 = .error (.reservedPort 0x87#8) ∧
      decodeWord 0x8A#8 = .error (.reservedPort 0x8A#8) ∧ decodeWord 0xC1#8 = .error (.reservedClass 0xC1#8) := by
  decide

theorem test_decode_noByte : decodeBytes [] = .error .noByte := by rfl

/-- A decoder reads one byte and leaves what follows (R57). -/
theorem test_decode_oneByte : decodeBytes [0x47#8, 0x01#8] = .ok (.poll, [0x01#8]) := by decide

theorem test_decodeTableWord : decodeTableWord 8 0x49 = some .finish ∧ decodeTableWord 8 0xFF = none := by decide

/-! ### The issuer check: what each check refuses (R58 to R60, R67) -/

theorem test_host_issues_no_internal : Instr.wellFormed .host .poll = false := by decide
theorem test_host_issues_no_port : Instr.wellFormed .host .gpioRead = false := by decide
theorem test_block_issues_no_command : Instr.wellFormed .block .measure = false := by decide
theorem test_host_issues_commands : Instr.wellFormed .host .measure = true := by decide
theorem test_rules_issue_no_output_up : PortOp.issuedByRules (.setOutput .up) = false := by decide
theorem test_rules_issue_no_input_down : PortOp.issuedByRules (.setInput .down) = false := by decide

/-! ### One step of each operation -/

/-- A state at work in phase `p`, with the line released and the time reads `T = t`, then `t` again. -/
def at' (p : Phase) (t : Nat) : State :=
  { State.reset with phase := p, line := releasedCfg, timeScript := [t, 0] }

/-- The same in `POLL`, with the capture registers given and the next level to be read. -/
def polling (level : Level) (count stall lastTs : Nat) (read : Level) (t : Nat) : State :=
  { at' .poll t with
    line := pollingCfg
    capLevel := level
    capCount := count
    capStall := stall
    capLastTs := BitVec.ofNat 32 lastTs
    lineScript := [read] }

/-- A state with the Reading of W1, committed at `at_`. -/
def withReading (s : State) (at_ : Word) : State :=
  { s with
    rdValid := true
    rdHInt := 0x2D#8
    rdHDec := 0x00#8
    rdTInt := 0x1A#8
    rdTDec := 0x05#8
    rdMeasuredAt := at_ }

/-- The outcome is a next state of which `p` holds. -/
def after (o : Outcome) (p : State → Bool) : Bool :=
  match o with
  | .next t => p t
  | .fault _ => false
  | .refused _ => false

/-- The durations of a train whose data entries are `one` where the 40-bit payload `bits` has a 1 and `zero` where it
has a 0, and whose other entries are `rest`. -/
def train (bits : BitVec 40) (one zero rest : Word) : Vector Word Config.nTrans :=
  Vector.ofFn fun i =>
    if i.val < 5 ∨ i.val % 2 = 0 then rest else if bits.getLsbD (39 - (i.val - 5) / 2) then one else zero

/-- P1, step 1. -/
theorem test_measure : after (exec .measure (at' .idle 0)) (fun t => t.phase == .check && t.cmd == .measure) := by decide
theorem test_readTemperature :
    after (exec .readTemperature (at' .idle 0)) (fun t => t.phase == .check && t.cmd.word == 0x02#8) := by decide
theorem test_readHumidity :
    after (exec .readHumidity (at' .idle 0)) (fun t => t.phase == .check && t.cmd.word == 0x03#8) := by decide
theorem test_readReading :
    after (exec .readReading (at' .idle 0)) (fun t => t.phase == .check && t.cmd.word == 0x04#8) := by decide

/-- V-exc-5. -/
theorem test_measure_while_polling : exec .measure (at' .poll 0) = .refused (.commandOutsideIdle .measure) := by rfl

/-- V-exc-4. -/
theorem test_idle_refuses : step { State.reset with hostIn := some 0x86#8 } = .refused (.reservedHostWord 0x86#8) := by rfl

/-- R98: nothing offered, nothing changes. -/
theorem test_idle_waits : step State.reset = .next State.reset := by rfl

/-- V-meas-1. -/
theorem test_check_no_reading : after (exec .check (at' .check 5)) (fun t => t.phase == .initHigh && t.trace == []) := by
  decide

/-- V-meas-2, both reads. -/
theorem test_check_boundary :
    after (exec .check (withReading (at' .check 272909) 72910#32)) (fun t => t.phase == .answer &&
      t.trace == [.elapsed 72910#32 199999#32]) ∧
    after (exec .check (withReading (at' .check 272910) 72910#32)) (fun t => t.phase == .initHigh) := by decide

/-- V-meas-3. -/
theorem test_check_wrap :
    after (exec .check (withReading (at' .check 0x100010000) 0xFFFF0000#32)) (fun t => t.phase == .answer) := by decide

/-- P1, step 3. -/
theorem test_initHigh : after (exec .initHigh (at' .initHigh 1000)) (fun t => t.phase == .holdHigh &&
    t.holdStart == 1000#32 && t.line.view == 0b101#3 && t.trace.map PortEvent.word == [0x80#8, 0x85#8, 0x88#8]) := by
  decide

/-- V-cap-8, both reads. -/
theorem test_holdHigh :
    after (exec .holdHigh { at' .holdHigh 50999 with holdStart := 1000#32 }) (fun t => t.phase == .holdHigh) ∧
    after (exec .holdHigh { at' .holdHigh 51000 with holdStart := 1000#32 }) (fun t => t.phase == .initLow) := by decide

/-- V-cap-10. -/
theorem test_holdHigh_wrap :
    after (exec .holdHigh { at' .holdHigh 0x10000B350 with holdStart := 0xFFFFF000#32 }) (fun t => t.phase == .initLow &&
      t.trace == [.elapsed 0xFFFFF000#32 50000#32]) := by decide

/-- P1, step 5. -/
theorem test_initLow :
    after (exec .initLow { at' .initLow 51000 with line := drivenHighCfg }) (fun t => t.phase == .holdLow &&
      t.holdStart == 51000#32 && t.line.view == 0b100#3 && t.trace.map PortEvent.word == [0x84#8, 0x88#8]) := by decide

/-- V-cap-9, both reads. -/
theorem test_holdLow :
    after (exec .holdLow { at' .holdLow 68999 with holdStart := 51000#32 }) (fun t => t.phase == .holdLow) ∧
    after (exec .holdLow { at' .holdLow 69000 with holdStart := 51000#32 }) (fun t => t.phase == .arm) := by decide

/-- P1, step 7. -/
theorem test_arm : after (exec .arm { at' .arm 69000 with capCount := 9, capStall := 9, capTooMany := true })
    (fun t => t.phase == .poll && t.line.view == 0b010#3 && t.capLastTs == 69000#32 && t.capLevel == .high &&
      t.capCount == 0 && t.capStall == 0 && !t.capTooMany &&
      t.trace.map PortEvent.word == [0x83#8, 0x88#8]) := by decide

/-- V-cap-1. -/
theorem test_poll_records : after (exec .poll (polling .high 0 7 69000 .low 69030)) (fun t => t.phase == .poll &&
    t.capBuf[0] == 30#32 && t.capLastTs == 69030#32 && t.capCount == 1 && t.capStall == 0 && t.capLevel == .low) := by
  decide

/-- V-cap-3 (both), V-cap-4 and V-cap-5: the ends of the loop. -/
theorem test_poll_ends :
    after (exec .poll (polling .high 5 99 0 .high 9)) (fun t => t.phase == .poll && t.capStall == 100) ∧
    after (exec .poll (polling .high 5 100 0 .high 9)) (fun t => t.phase == .release && t.capStall == 101) ∧
    after (exec .poll (polling .high 5 100 0 .low 9)) (fun t => t.phase == .poll && t.capStall == 0 && t.capCount == 6) ∧
    after (exec .poll (polling .high 84 39 0 .low 9)) (fun t => t.phase == .release && t.capTooMany && t.capCount == 84 &&
      t.capStall == 39 && t.capLevel == .high && t.capLastTs == 0#32) := by decide

/-- V-cap-15. -/
theorem test_release : after (exec .release { at' .release 0 with line := pollingCfg }) (fun t => t.phase == .finish &&
    t.line.view == 0b100#3 && t.trace.map PortEvent.word == [0x80#8, 0x84#8]) := by decide

/-- V-exc-1, V-cap-11. -/
theorem test_finish_errors :
    after (exec .finish { at' .finish 0 with capCount := 83 }) (fun t => t.phase == .idle &&
      t.responses == [0x535402#72]) ∧
    after (exec .finish { at' .finish 0 with capCount := 84, capTooMany := true }) (fun t => t.phase == .idle &&
      t.responses == [0x1#72]) := by decide

/-- V-cap-13. -/
theorem test_finish_passes :
    after (exec .finish { at' .finish 0 with capCount := 84 }) (fun t => t.phase == .decode && t.responses == []) := by
  decide

/-- W1 and V-dec-4. -/
theorem test_decode_w1 :
    after (exec .decode { at' .decode 0 with capBuf := train 0x2D001A054C#40 70#32 26#32 0xFFFFFFFF#32 })
      (fun t => t.phase == .validate && t.pl.toList == [0x2D#8, 0x00#8, 0x1A#8, 0x05#8, 0x4C#8]) := by decide

/-- V-dec-2, with the threshold of V-dec-1. -/
theorem test_decode_first_bit :
    after (exec .decode { at' .decode 0 with capBuf := train 0x8000000000#40 51#32 50#32 0#32 })
      (fun t => t.pl.toList == [0x80#8, 0x00#8, 0x00#8, 0x00#8, 0x00#8]) := by decide

/-- V-chk-1, V-chk-3. -/
theorem test_validate_passes :
    after (exec .validate { at' .validate 0 with pl := #v[0x2D#8, 0x00#8, 0x1A#8, 0x05#8, 0x4C#8] })
      (fun t => t.phase == .commit) ∧
    after (exec .validate { at' .validate 0 with pl := #v[0xFF#8, 0xFF#8, 0xFF#8, 0xFF#8, 0xFC#8] })
      (fun t => t.phase == .commit) := by decide

/-- V-chk-2. -/
theorem test_validate_fails :
    after (exec .validate { at' .validate 0 with pl := #v[0x2D#8, 0x00#8, 0x1A#8, 0x05#8, 0x4D#8] })
      (fun t => t.phase == .idle && t.responses == [0x3#72]) := by decide

/-- V-meas-7. -/
theorem test_commit :
    after (exec .commit { at' .commit 72910 with pl := #v[0x2D#8, 0x00#8, 0x1A#8, 0x05#8, 0x4C#8] })
      (fun t => t.phase == .answer && t.rdValid && t.rdHInt == 45#8 && t.rdHDec == 0#8 && t.rdTInt == 26#8 &&
        t.rdTDec == 5#8 && t.rdMeasuredAt == 72910#32) := by decide

/-- V-meas-5. -/
theorem test_answer_reading :
    after (exec .answer { withReading (at' .answer 0) 72910#32 with cmd := .readReading })
      (fun t => t.phase == .idle && t.responses == [0x11CCE01C2010900#72]) := by decide

/-- P1, commands 2 and 3, and V-meas-6. -/
theorem test_answer_values :
    after (exec .answer { withReading (at' .answer 0) 72910#32 with cmd := .readTemperature })
      (fun t => t.responses == [0x10900#72]) ∧
    after (exec .answer { withReading (at' .answer 0) 72910#32 with cmd := .readHumidity })
      (fun t => t.responses == [0x1C200#72]) ∧
    after (exec .answer (withReading (at' .answer 0) 72910#32)) (fun t => t.responses == [0x0#72]) := by decide

/-- V-meas-4. -/
theorem test_tenths : tenths 26#8 5#8 = 265#16 ∧ tenths 45#8 0#8 = 450#16 ∧ tenths 26#8 15#8 = 275#16 ∧
    tenths 255#8 255#8 = 2805#16 ∧ tenths 0#8 0#8 = 0#16 := by decide

/-- V-port-4. -/
theorem test_gpioSetOutput : after (exec (.gpioSetOutput .down) { at' .idle 0 with line := ⟨.input, .up, .high⟩ })
    (fun t => t.line.view == 0b101#3 && t.trace.map PortEvent.word == [0x80#8]) := by decide

/-- V-port-5. -/
theorem test_gpioSetInput : after (exec (.gpioSetInput .up) (at' .idle 0))
    (fun t => t.line.view == 0b010#3 && t.trace.map PortEvent.word == [0x83#8]) := by decide

/-- V-port-6. -/
theorem test_gpioWrite : after (exec (.gpioWrite .high) (at' .idle 0))
    (fun t => t.line.view == 0b101#3 && t.trace.map PortEvent.word == [0x85#8]) := by decide

/-- R74: the level comes from the environment, and the configuration is unchanged. -/
theorem test_gpioRead : after (exec .gpioRead { at' .idle 0 with line := pollingCfg, lineScript := [.high, .low] })
    (fun t => t.trace == [.read .high] && t.line.view == 0b010#3 && t.lineScript == [.low]) := by decide

/-- U3: each in the other direction. -/
theorem test_gpioRead_while_output : exec .gpioRead (at' .idle 0) = .refused .gpioReadWhileOutput := by rfl
theorem test_gpioWrite_while_input :
    exec (.gpioWrite .high) { at' .idle 0 with line := pollingCfg } = .refused .gpioWriteWhileInput := by rfl

/-- R75: `T mod 2^32`. -/
theorem test_timeNow : after (exec .timeNow (at' .idle 0x100000010)) (fun t => t.trace == [.now 0x10#32]) := by decide

/-- V-port-1. -/
theorem test_timeElapsed :
    after (exec .timeElapsed { at' .holdLow 0x100000010 with holdStart := 0xFFFFFFF0#32 })
      (fun t => t.trace == [.elapsed 0xFFFFFFF0#32 0x20#32]) := by decide

/-- V-port-2, V-port-3. -/
theorem test_elapsedTicks : elapsedTicks 0x00012345#32 0x00012345#32 = 0#32 ∧
    elapsedTicks 0x00000000#32 0x00000001#32 = 0xFFFFFFFF#32 := by decide

/-! ### Placing a word where the next step fetches it -/

theorem test_withFetchWord_command :
    step (State.reset.withFetchWord 8 0x02) = exec .readTemperature State.reset := by rfl

theorem test_withFetchWord_phase :
    step (State.reset.withFetchWord 8 0x42) = exec .initHigh { State.reset with phase := .initHigh } := by rfl

theorem test_withFetchWord_port : after (step (State.reset.withFetchWord 8 0x85))
    (fun t => t.trace == [.write .high] && t.line.out == .high && t.portReq == none) := by decide

theorem test_withFetchWord_read : after (step (State.reset.withFetchWord 8 0x86))
    (fun t => t.lineReads == 1 && t.portReq == none) := by decide

/-- R117 (3). -/
theorem test_tampered_line : step { State.reset with lineTampered := true } = .refused .lineOwnershipBroken := by rfl

/-! ### Witnesses: states that meet the hypotheses of the statements, each clause at a boundary value -/

/-- The base state of the witnesses: reset, with the line released. -/
def calm (p : Phase) : State := { State.reset with phase := p, line := releasedCfg }

theorem calm_quiet (p : Phase) : (calm p).Quiet := ⟨rfl, rfl, rfl⟩

/-- A capture that has ended: 84 transitions and a stall. -/
def complete (p : Phase) : State := { calm p with capCount := 84, capStall := 101, capLevel := .high }

theorem complete_inv : (complete .finish).CaptureInv := by
  constructor <;> simp [complete, calm, trackedLevel, State.reset]

theorem polling_inv : (polling .high 84 100 0 .low 9).CaptureInv := by
  constructor <;> simp [polling, at', State.reset, trackedLevel]

theorem calm_lineInv (p : Phase) (h : p = .idle ∨ p = .finish ∨ p = .check) : (calm p).LineInv := by
  obtain rfl | rfl | rfl := h <;> constructor <;> simp [calm, State.reset]

theorem polling_lineInv : (polling .high 84 100 0 .low 9).LineInv := by
  constructor <;> simp [polling, at', State.reset]

/-- Both ends of every range of reserved words. -/
theorem witness_ReservedWordsAreRejectedByName :
    decodeWord 0x3F#8 = .error (.reservedHost 0x3F#8) ∧ decodeWord 0x7F#8 = .error (.reservedInternal 0x7F#8) ∧
      decodeWord 0xBF#8 = .error (.reservedPort 0xBF#8) ∧ decodeWord 0xC0#8 = .error (.reservedClass 0xC0#8) ∧
      decodeWord 0xFF#8 = .error (.reservedClass 0xFF#8) := by decide

theorem witness_DecodeAndEncodeAgree : ∃ (w : Byte) (i : Instr), decodeWord w = .ok i :=
  ⟨0x89#8, .timeElapsed, by decide⟩

theorem witness_StepRunsTheDecodedOperation : ∃ (s : State) (i : Instr), s.lineTampered = false ∧
    decodeWord (fetch s).word = .ok i ∧ i.wellFormed (fetch s).source = true :=
  ⟨calm .arm, .arm, rfl, rfl, rfl⟩

/-- The four clauses of what is fetched. -/
theorem witness_FetchOrder :
    (∃ s op, State.portReq s = some op ∧ s.hostIn ≠ none) ∧
    (∃ s w, State.portReq s = none ∧ s.hostIn = some w ∧ s.phase ≠ .idle) ∧
    (∃ s w ws, State.portReq s = none ∧ s.hostIn = none ∧ s.phase = .idle ∧ s.hostProgram = w :: ws) ∧
    (∃ s, State.portReq s = none ∧ s.hostIn = none ∧ (s.phase ≠ .idle ∨ s.hostProgram = [])) :=
  ⟨⟨{ calm .idle with portReq := some .now, hostIn := some 0x01#8 }, .now, by decide⟩,
    ⟨{ calm .poll with hostIn := some 0x01#8 }, 0x01#8, by decide⟩,
    ⟨{ calm .idle with hostProgram := [0x01#8] }, 0x01#8, [], by decide⟩,
    ⟨{ calm .poll with hostProgram := [0x01#8] }, by decide⟩⟩

theorem witness_EachPhaseRunsItsOperation : ∃ s : State, s.Quiet ∧ s.phase ≠ .idle :=
  ⟨calm .check, calm_quiet _, by decide⟩

theorem witness_IdleStepIsTheIdleRule : ∃ s : State, s.lineTampered = false ∧ s.portReq = none ∧ s.phase = .idle ∧
    s.hostOffer ≠ none :=
  ⟨{ calm .idle with hostIn := some 0x04#8 }, by decide⟩

/-- The three refusals, at the words on both sides of the host commands. -/
theorem witness_RefusalsAreThoseOfTheRule :
    (∃ s, State.portReq s = none ∧ s.lineTampered = true) ∧
    (∃ s, State.portReq s = none ∧ s.hostOffer = some (0x00#8, calm .idle)) ∧
    (∃ s, State.portReq s = none ∧ s.hostOffer = some (0x05#8, calm .idle)) ∧
    (∃ s, State.portReq s = none ∧ s.hostIn = some 0x01#8 ∧ s.phase ≠ .idle) :=
  ⟨⟨{ calm .idle with lineTampered := true }, by decide⟩,
    ⟨{ calm .idle with hostIn := some 0x00#8 }, rfl, rfl⟩,
    ⟨{ calm .idle with hostProgram := [0x05#8] }, rfl, rfl⟩,
    ⟨{ calm .poll with hostIn := some 0x01#8 }, by decide⟩⟩

theorem witness_NoFaultUnderTheInvariant : ∃ s : State, s.CaptureInv ∧ s.phase = .poll ∧ s.capCount = 84 :=
  ⟨_, polling_inv, rfl, rfl⟩

theorem witness_CommandsAreAcceptedInIdle : ∃ s : State, s.phase = .idle := ⟨State.reset, rfl⟩

theorem witness_CommandsAreRefusedOutsideIdle : ∃ s : State, s.phase ≠ .idle := ⟨calm .answer, by decide⟩

/-- The three clauses of `IDLE`. -/
theorem witness_IdleWaitsAcceptsOrRefuses :
    (∃ s : State, s.phase = .idle ∧ s.hostOffer = none) ∧
    (∃ (s : State) (c : HostCmd), s.phase = .idle ∧ s.hostOffer = some (c.word, calm .idle)) ∧
    (∃ s : State, s.phase = .idle ∧ s.hostOffer = some (0x05#8, calm .idle)) :=
  ⟨⟨calm .idle, rfl, rfl⟩, ⟨{ calm .idle with hostIn := some 0x04#8 }, .readReading, rfl, rfl⟩,
    ⟨{ calm .idle with hostIn := some 0x05#8 }, rfl, rfl⟩⟩

/-- No Reading; a Reading 199999 µs old; a Reading 200000 µs old. -/
theorem witness_CheckDecidesOnTheInterval :
    (∃ s : State, s.rdValid = false) ∧
    (∃ s : State, s.rdValid = true ∧ (s.drawElapsed s.rdMeasuredAt).toNat = 199999) ∧
    (∃ s : State, s.rdValid = true ∧ (s.drawElapsed s.rdMeasuredAt).toNat = 200000) :=
  ⟨⟨State.reset, rfl⟩, ⟨withReading (at' .check 272909) 72910#32, by decide⟩,
    ⟨withReading (at' .check 272910) 72910#32, by decide⟩⟩

/-- One microsecond short of each bound, and at it. -/
theorem witness_HoldsEndAtTheirBounds :
    (∃ s : State, (s.drawElapsed s.holdStart).toNat = 49999) ∧ (∃ s : State, (s.drawElapsed s.holdStart).toNat = 50000) ∧
    (∃ s : State, (s.drawElapsed s.holdStart).toNat = 17999) ∧ (∃ s : State, (s.drawElapsed s.holdStart).toNat = 18000) :=
  ⟨⟨at' .holdHigh 49999, by decide⟩, ⟨at' .holdHigh 50000, by decide⟩, ⟨at' .holdLow 17999, by decide⟩,
    ⟨at' .holdLow 18000, by decide⟩⟩

/-- A change with 84 and with 83 transitions recorded, and an unchanged poll with 100 and with 99 before it. -/
theorem witness_PollIteration :
    (∃ s : State, s.capCount = 84 ∧ s.drawLevel ≠ s.capLevel) ∧
    (∃ s : State, s.capCount = 83 ∧ s.drawLevel ≠ s.capLevel) ∧
    (∃ s : State, s.capCount ≤ 84 ∧ s.drawLevel = s.capLevel ∧ s.capStall = 100) ∧
    (∃ s : State, s.capCount ≤ 84 ∧ s.drawLevel = s.capLevel ∧ s.capStall = 99) :=
  ⟨⟨polling .high 84 0 0 .low 9, by decide⟩, ⟨polling .low 83 0 0 .high 9, by decide⟩,
    ⟨polling .high 84 100 0 .high 9, by decide⟩, ⟨polling .high 0 99 0 .high 9, by decide⟩⟩

/-- The three ways of `FINISH`, the second on both sides of 84. -/
theorem witness_FinishChecksTheCount :
    (∃ s : State, s.capTooMany = true) ∧ (∃ s : State, s.capTooMany = false ∧ s.capCount = 83) ∧
    (∃ s : State, s.capTooMany = false ∧ s.capCount = 85) ∧ (∃ s : State, s.capTooMany = false ∧ s.capCount = 84) :=
  ⟨⟨{ calm .finish with capTooMany := true }, rfl⟩, ⟨{ calm .finish with capCount := 83 }, by decide⟩,
    ⟨{ calm .finish with capCount := 85 }, by decide⟩, ⟨complete .finish, by decide⟩⟩

/-- Each command in `ANSWER`, with the largest and the smallest bytes. -/
theorem witness_AnswerDeliversTheReading :
    (∃ s : State, s.cmd = .measure) ∧ (∃ s : State, s.cmd = .readTemperature ∧ s.rdTInt = 255#8 ∧ s.rdTDec = 255#8) ∧
    (∃ s : State, s.cmd = .readHumidity ∧ s.rdHInt = 0#8) ∧ (∃ s : State, s.cmd = .readReading) :=
  ⟨⟨calm .answer, rfl⟩, ⟨{ calm .answer with cmd := .readTemperature, rdTInt := 255#8, rdTDec := 255#8 }, by decide⟩,
    ⟨{ calm .answer with cmd := .readHumidity }, by decide⟩, ⟨{ calm .answer with cmd := .readReading }, rfl⟩⟩

/-- The three cases of `FINISH` under the invariant, the counts at their ends. -/
theorem witness_CaptureErrorsExcludeEachOther :
    (∃ s : State, s.CaptureInv ∧ s.phase = .finish ∧ s.capTooMany = true ∧ s.capCount = 84 ∧ s.capStall = 100) ∧
    (∃ s : State, s.CaptureInv ∧ s.phase = .finish ∧ s.capTooMany = false ∧ s.capCount = 83 ∧ s.capStall = 101) ∧
    (∃ s : State, s.CaptureInv ∧ s.phase = .finish ∧ s.capTooMany = false ∧ s.capCount = 84 ∧ s.capStall = 101) := by
  refine ⟨⟨{ complete .finish with capTooMany := true, capStall := 100 }, ?_, rfl, rfl, rfl, rfl⟩,
    ⟨{ complete .finish with capCount := 83, capLevel := .low }, ?_, rfl, rfl, rfl, rfl⟩,
    ⟨complete .finish, complete_inv, rfl, rfl, rfl, rfl⟩⟩
  all_goals constructor <;> simp [complete, calm, State.reset, trackedLevel, Level.toggle, Config.nTrans]

theorem witness_ErrorResponsesCarryTheirFields :
    (SensorError.wrongPulseCount 84 83).word.toNat = 0x535402 ∧ (SensorError.wrongPulseCount 84 0).word.toNat = 0x5402 := by
  decide

/-- V-dec-1: 51 and 50, and the two ends. -/
theorem witness_ClassificationIsStrictlyAboveTheThreshold :
    50 < (51#32 : Word).toNat ∧ (50#32 : Word).toNat ≤ 50 ∧ (0#32 : Word).toNat ≤ 50 ∧
      50 < (0xFFFFFFFF#32 : Word).toNat := by decide

/-- Two captures that differ in every entry, with every data entry on the same side of 50. -/
theorem witness_DecodeIgnoresSyncEntries : ∃ a b : Vector Word Config.nTrans, a ≠ b ∧
    ∀ k : Fin 40, 50 < (dataDuration a k).toNat ↔ 50 < (dataDuration b k).toNat :=
  ⟨train 0x2D001A054C#40 51#32 50#32 0#32, train 0x2D001A054C#40 0xFFFFFFFF#32 0#32 7#32, by decide, by decide⟩

/-- Both ways of `VALIDATE` (V-chk-5, V-chk-4). -/
theorem witness_ValidateAcceptsExactlyTheRightChecksum :
    sum8 #v[0x80#8, 0x80#8, 0x00#8, 0x00#8, 0x00#8] = 0x00#8 ∧
      sum8 #v[0xFF#8, 0xFF#8, 0xFF#8, 0xFF#8, 0xFF#8] ≠ 0xFF#8 := by decide

/-- V-dec-5: every data entry exactly 50. -/
theorem witness_AllShortTrainPassesTheChecksum : ∃ s : State, s.Quiet ∧ s.phase = .decode ∧
    ∀ k : Fin 40, (dataDuration s.capBuf k).toNat ≤ 50 :=
  ⟨{ calm .decode with capBuf := train 0#40 51#32 50#32 99#32 }, ⟨rfl, rfl, rfl⟩, rfl, by decide⟩

/-- `GPIO_WRITE` in both directions. -/
theorem witness_WritingTheLineSetsTheDrivenLevel :
    (∃ s : State, s.line.dir = .output) ∧ (∃ s : State, s.line.dir = .input) :=
  ⟨⟨calm .idle, rfl⟩, ⟨{ calm .idle with line := pollingCfg }, rfl⟩⟩

/-- Each operation of the list, `GPIO_READ` in both directions, and each of the clauses on the phase. -/
theorem witness_ReadsDrawOnceAndChangeNoRegister :
    (∀ i ∈ [Instr.gpioRead, .timeNow, .timeElapsed], i = .gpioRead ∨ i = .timeNow ∨ i = .timeElapsed) ∧
    (∃ s : State, s.line.dir = .output) ∧ (∃ s : State, s.line.dir = .input) ∧
    (∃ s : State, s.phase = .check) ∧ (∃ s : State, s.phase = .holdHigh) ∧ (∃ s : State, s.phase = .holdLow) :=
  ⟨by decide, ⟨calm .idle, rfl⟩, ⟨{ calm .idle with line := pollingCfg }, rfl⟩, ⟨calm .check, rfl⟩,
    ⟨calm .holdHigh, rfl⟩, ⟨calm .holdLow, rfl⟩⟩

theorem witness_EventsCarryTheirOperationsWord : ∃ (s t : State) (op : PortOp), exec op.instr s = .next t :=
  ⟨calm .idle, _, .write .high, rfl⟩

/-- The invariants' steps start from states that meet them, with a step to take. -/
theorem witness_CaptureInvariantIsKept : ∃ s t : State, s.CaptureInv ∧ step s = .next t ∧ s.phase = .poll :=
  ⟨_, _, polling_inv, rfl, rfl⟩

theorem witness_LineInvariantIsKept : ∃ s t : State, s.LineInv ∧ step s = .next t ∧ s.phase = .poll :=
  ⟨_, _, polling_lineInv, rfl, rfl⟩

/-- A poll, in which a line read is made; two writes, one in a line that was released and one after the direction is
set; and a phase without any. -/
theorem witness_BlockIssuesOnlyTheOperationsOfItsRules :
    (∃ s t : State, s.LineInv ∧ step s = .next t ∧ t.trace = s.trace ++ [.read .low, .now 9#32]) ∧
    (∃ s t : State, s.LineInv ∧ step s = .next t ∧ t.trace = s.trace ++ [.write .low, .now 9#32]) ∧
    (∃ s t : State, s.LineInv ∧ step s = .next t ∧ t.trace = s.trace ++ [.setOutput .down, .write .low]) ∧
    (∃ s t : State, s.LineInv ∧ step s = .next t ∧ s.phase = .finish) :=
  ⟨⟨polling .high 84 100 0 .low 9, _, polling_lineInv, rfl, rfl⟩,
    ⟨{ at' .initLow 9 with line := drivenHighCfg }, _, by constructor <;> simp [at', State.reset], rfl, rfl⟩,
    ⟨{ at' .release 0 with line := pollingCfg }, _, by constructor <;> simp [at', State.reset], rfl, rfl⟩,
    ⟨calm .finish, _, calm_lineInv _ (by simp), rfl, rfl⟩⟩

/-- A step in which time stands still. -/
theorem witness_TimeNeverStepsBack : ∃ s t : State, step s = .next t ∧ t.trace = s.trace ++ [.setInput .up, .now 0#32] :=
  ⟨at' .arm 0, _, rfl, rfl⟩

theorem witness_PhaseTransitionsAreThoseOfTheTable : ∃ s t : State, s.portReq = none ∧ step s = .next t ∧
    s.phase = .release ∧ t.phase = .finish :=
  ⟨calm .release, _, rfl, rfl, rfl, rfl⟩

/-- A commit, and a step with a valid Reading. -/
theorem witness_OnlyCommitChangesTheReading :
    (∃ s t : State, step s = .next t ∧ s.phase = .commit) ∧ (∃ s t : State, step s = .next t ∧ s.rdValid = true) :=
  ⟨⟨at' .commit 9, _, rfl, rfl⟩, ⟨withReading (calm .release) 0#32, _, rfl, rfl⟩⟩

/-- A return to `IDLE`, a wait in it, and a step between two other phases. -/
theorem witness_OneResponsePerReturnToIdle :
    (∃ s t : State, s.portReq = none ∧ step s = .next t ∧ s.phase ≠ .idle ∧ t.phase = .idle) ∧
    (∃ s t : State, s.portReq = none ∧ step s = .next t ∧ s.phase = .idle) ∧
    (∃ s t : State, s.portReq = none ∧ step s = .next t ∧ s.phase ≠ .idle ∧ t.phase ≠ .idle) :=
  ⟨⟨calm .answer, _, rfl, rfl, by decide, rfl⟩, ⟨calm .idle, _, rfl, rfl, rfl⟩,
    ⟨calm .release, _, rfl, rfl, by decide, by decide⟩⟩

theorem witness_ErrorsLeaveTheLineReleased : ∃ (s t : State) (r : BitVec 72), s.LineInv ∧ step s = .next t ∧
    t.responses = s.responses ++ [r] ∧ statusOf r ≠ 0x00#8 :=
  ⟨calm .finish, _, 0x5402#72, calm_lineInv _ (by simp), rfl, rfl, by decide⟩

theorem witness_FailedCommandLeavesTheReading : ∃ (s t : State) (r : BitVec 72), s.portReq = none ∧ s.phase ≠ .idle ∧
    Runs 2 s t ∧ t.phase = .idle ∧ t.responses = s.responses ++ [r] ∧ statusOf r ≠ 0x00#8 :=
  ⟨calm .release, _, 0x5402#72, rfl, by decide, rfl, rfl, rfl, by decide⟩

/-- The oldest Reading that is still a hit (V-meas-2), with the command offered outright and by the host's program. -/
theorem witness_CacheHitAnswersFromTheReading :
    (∃ s rest : State, s.lineTampered = false ∧ s.portReq = none ∧ s.phase = .idle ∧
      s.hostOffer = some (HostCmd.readHumidity.word, rest) ∧ s.rdValid = true ∧
      (s.drawElapsed s.rdMeasuredAt).toNat = 199999 ∧ s.hostIn ≠ none) ∧
    (∃ s rest : State, s.lineTampered = false ∧ s.portReq = none ∧ s.phase = .idle ∧
      s.hostOffer = some (HostCmd.readHumidity.word, rest) ∧ s.rdValid = true ∧
      (s.drawElapsed s.rdMeasuredAt).toNat = 199999 ∧ s.hostIn = none) :=
  ⟨⟨{ withReading (at' .idle 272909) 72910#32 with hostIn := some 0x03#8 }, _, rfl, rfl, rfl, rfl, rfl, by decide,
      by decide⟩,
    ⟨{ withReading (at' .idle 272909) 72910#32 with hostProgram := [0x03#8, 0x04#8] }, _, rfl, rfl, rfl, rfl, rfl,
      by decide, rfl⟩⟩

theorem witness_ValidCaptureIsCommittedAndAnswered : ∃ s : State, s.Quiet ∧ s.phase = .decode ∧
    sum8 (payloadOf s.capBuf) = (payloadOf s.capBuf)[4] :=
  ⟨{ calm .decode with capBuf := train 0x2D001A054C#40 70#32 26#32 50#32 }, ⟨rfl, rfl, rfl⟩, rfl, by decide⟩

/-- V-rst-1, with the command offered outright and by the host's program. -/
theorem witness_FirstCommandAlwaysCaptures :
    (∃ s rest : State, s.lineTampered = false ∧ s.portReq = none ∧ s.phase = .idle ∧
      s.hostOffer = some (HostCmd.readHumidity.word, rest) ∧ s.rdValid = false ∧ s.hostIn ≠ none) ∧
    (∃ s rest : State, s.lineTampered = false ∧ s.portReq = none ∧ s.phase = .idle ∧
      s.hostOffer = some (HostCmd.readHumidity.word, rest) ∧ s.rdValid = false ∧ s.hostIn = none) :=
  ⟨⟨{ State.reset with hostIn := some 0x03#8 }, _, rfl, rfl, rfl, rfl, rfl, by simp⟩,
    ⟨{ State.reset with hostProgram := [0x03#8] }, _, rfl, rfl, rfl, rfl, rfl, rfl⟩⟩

theorem witness_PollLoopEndsWithin8585Polls : ∃ s : State, s.Quiet ∧ s.CaptureInv ∧ s.phase = .poll :=
  ⟨polling .high 84 100 0 .low 9, ⟨rfl, rfl, rfl⟩, polling_inv, rfl⟩

theorem witness_ArmedCaptureIsAlwaysAnswered : ∃ s : State, s.Quiet ∧ s.phase = .arm := ⟨calm .arm, calm_quiet _, rfl⟩

/-- A run of the initialization signal whose holds end exactly at their bounds, as in P1. -/
theorem witness_InitializationSignalLasts68000Microseconds : ∃ s u t : State, s.portReq = none ∧ s.phase = .initHigh ∧
    step s = .next u ∧ Runs 4 u t ∧ t.phase = .poll :=
  ⟨{ at' .initHigh 0 with timeScript := [1000, 50000, 0, 18000, 0] }, _, _, rfl, rfl, rfl, rfl, rfl⟩

/-- Both holds. -/
theorem witness_HoldHangsWhileTimeStandsStill :
    (∃ s : State, s.Quiet ∧ s.phase = .holdHigh ∧ s.holdStart = BitVec.ofNat 32 s.timeCount ∧
      s.timeScript = List.replicate 3 0) ∧
    (∃ s : State, s.Quiet ∧ s.phase = .holdLow ∧ s.holdStart = BitVec.ofNat 32 s.timeCount ∧
      s.timeScript = List.replicate 3 0) :=
  ⟨⟨{ calm .holdHigh with timeScript := [0, 0, 0] }, ⟨rfl, rfl, rfl⟩, rfl, rfl, rfl⟩,
    ⟨{ calm .holdLow with timeScript := [0, 0, 0] }, ⟨rfl, rfl, rfl⟩, rfl, rfl, rfl⟩⟩

/-- With a Reading exactly the interval old, and with none. -/
theorem witness_NoCaptureWithinTheMinimumInterval :
    (∃ s t : State, s.rdMeasuredAt = BitVec.ofNat 32 0 ∧ exec .check s = .next t ∧ t.phase = .initHigh ∧
      s.rdValid = true) ∧
    (∃ s t : State, exec .check s = .next t ∧ t.phase = .initHigh ∧ s.rdValid = false) :=
  ⟨⟨withReading (at' .check 200000) 0#32, _, rfl, rfl, rfl, rfl⟩, ⟨calm .check, _, rfl, rfl, rfl⟩⟩

/-- One whole turn and the last microsecond of the interval. -/
theorem witness_IntervalCheckIsBlindToWholeTurns : ∃ s : State, s.rdValid = true ∧
    s.rdMeasuredAt = BitVec.ofNat 32 5 ∧ s.drawCount = 5 + 1 * 2 ^ 32 + 199999 :=
  ⟨withReading (at' .check (5 + 2 ^ 32 + 199999)) 5#32, by decide⟩

/-- Two states that agree where the rules look and differ in registers that hold no value. -/
theorem witness_UnspecifiedRegistersAreNeverRead : ∃ a b : State, AgreeLive a b ∧ a ≠ b :=
  ⟨calm .idle, { calm .idle with capCount := 7, cmd := .readReading, rdHInt := 1#8 },
    by constructor <;> simp [calm, State.reset], by decide⟩

theorem witness_ResetGarbageIsNeverObserved : ∃ s t : State, s.phase = .idle ∧ s.rdValid = false ∧ s.portReq = none ∧
    Runs 2 s t ∧ t.phase = .initHigh :=
  ⟨{ calm .idle with hostProgram := [0x01#8] }, _, rfl, rfl, rfl, rfl, rfl⟩

end Sys2Proof.Tests
end

section
/-! PROOFS. The decoder: the classification of a duration (R93) and the packing of the 40 bits (R94). -/

namespace Sys2Proof.Machine

/-- Settles O26, by the two cases of the comparison: each of the rule's own four values falls under one of them. -/
theorem classificationIsStrictlyAboveTheThreshold : Obligations.ClassificationIsStrictlyAboveTheThreshold := by
  unfold Obligations.ClassificationIsStrictlyAboveTheThreshold
  refine ⟨fun d => ⟨classify_of_gt, classify_of_le⟩, ?_, ?_, ?_, ?_⟩
  · exact classify_of_le (by decide)
  · exact classify_of_gt (by decide)
  · exact classify_of_le (by decide)
  · exact classify_of_gt (by decide)

/-! ### The packing as sums (R94) -/

theorem payloadOf_getElem (buf : Vector Word Config.nTrans) (j : Fin 5) :
    (payloadOf buf)[j] = payloadByte buf j.val := by
  fin_cases j <;> rfl

theorem payloadByte_toNat_eq_sum (buf : Vector Word Config.nTrans) (j : Nat) :
    (payloadByte buf j).toNat = ∑ i ∈ Finset.range 8, (payloadBit buf (8 * j + i)).toNat * 2 ^ (7 - i) := by
  simp [payloadByte_toNat, Finset.sum_range_succ]

/-- `n + m` digits read most significant first: the value of the first `n`, moved up by `m` places, and that of the
last `m`. -/
theorem sum_msbFirst_add (b : Nat → Nat) (n m : Nat) :
    ∑ k ∈ Finset.range (n + m), b k * 2 ^ (n + m - 1 - k) =
      (∑ k ∈ Finset.range n, b k * 2 ^ (n - 1 - k)) * 2 ^ m + ∑ i ∈ Finset.range m, b (n + i) * 2 ^ (m - 1 - i) := by
  rw [Finset.sum_range_add, Finset.sum_mul]
  congr 1
  · refine Finset.sum_congr rfl fun k hk => ?_
    have hk : k < n := Finset.mem_range.mp hk
    have hexp : n + m - 1 - k = n - 1 - k + m := by omega
    rw [hexp, pow_add, mul_assoc]
  · refine Finset.sum_congr rfl fun i _ => ?_
    have hexp : n + m - 1 - (n + i) = m - 1 - i := by omega
    rw [hexp]

/-- One more byte, appended below the bytes whose value is the sum of the first `8 * j` bits. -/
theorem append_payloadByte_toNat (buf : Vector Word Config.nTrans) {w : Nat} (x : BitVec w) (j : Nat)
    (hx : x.toNat = ∑ k ∈ Finset.range (8 * j), (payloadBit buf k).toNat * 2 ^ (8 * j - 1 - k)) :
    (x ++ payloadByte buf j).toNat =
      ∑ k ∈ Finset.range (8 * (j + 1)), (payloadBit buf k).toNat * 2 ^ (8 * (j + 1) - 1 - k) := by
  rw [append_toNat, hx, payloadByte_toNat_eq_sum]
  exact (sum_msbFirst_add (fun k => (payloadBit buf k).toNat) (8 * j) 8).symm

/-- The five bytes as one number: `append_payloadByte_toNat`, from the first byte to the last. -/
theorem payloadBytes_toNat_eq_sum (buf : Vector Word Config.nTrans) :
    (payloadByte buf 0 ++ payloadByte buf 1 ++ payloadByte buf 2 ++ payloadByte buf 3 ++ payloadByte buf 4).toNat =
      ∑ k ∈ Finset.range 40, (payloadBit buf k).toNat * 2 ^ (39 - k) := by
  have h0 : (payloadByte buf 0).toNat =
      ∑ k ∈ Finset.range (8 * 1), (payloadBit buf k).toNat * 2 ^ (8 * 1 - 1 - k) := by
    simpa using payloadByte_toNat_eq_sum buf 0
  have h1 := append_payloadByte_toNat buf _ 1 h0
  have h2 := append_payloadByte_toNat buf _ 2 h1
  have h3 := append_payloadByte_toNat buf _ 3 h2
  exact append_payloadByte_toNat buf _ 4 h3

/-- Settles O28, byte by byte: each byte is the sum of its bits, the 40-bit value is built by appending one byte at a
time, and the bit positions are those of `payloadByte`. -/
theorem payloadBytesAreTheSumsOfTheirBits : Obligations.PayloadBytesAreTheSumsOfTheirBits := by
  unfold Obligations.PayloadBytesAreTheSumsOfTheirBits
  intro buf
  refine ⟨fun j => ?_, payloadBytes_toNat_eq_sum buf, fun j i => ?_⟩
  · rw [payloadOf_getElem, payloadByte_toNat_eq_sum]
  · rw [payloadOf_getElem, payloadByte_getLsbD]

end Sys2Proof.Machine
end

section
/-! PROOFS. The checksum: the sum modulo 256 (R96) and the comparison `VALIDATE` makes (R97). -/

namespace Sys2Proof.Machine

/-! ### The sum (R96) -/

theorem sum8_toNat (pl : Vector Byte Config.nBytes) :
    (sum8 pl).toNat = (pl[0].toNat + pl[1].toNat + pl[2].toNat + pl[3].toNat) % 256 :=
  ((sum8_eq_iff pl (sum8 pl)).mp rfl).symm

/-- The fifth byte is no part of the sum. -/
@[simp] theorem sum8_set_four (pl : Vector Byte Config.nBytes) (b : Byte) : sum8 (pl.set 4 b) = sum8 pl := by
  simp [sum8]

theorem sum_four_bytes_le (a b c d : Byte) : a.toNat + b.toNat + c.toNat + d.toNat ≤ 1020 := by
  have ha := a.isLt
  have hb := b.isLt
  have hc := c.isLt
  have hd := d.isLt
  omega

/-- Settles O30: the sum as a number, the bound of four bytes, and the fifth byte left out. -/
theorem checksumIsTheSumModulo256 : Obligations.ChecksumIsTheSumModulo256 := by
  unfold Obligations.ChecksumIsTheSumModulo256
  exact fun pl => ⟨sum8_toNat pl, sum_four_bytes_le _ _ _ _, sum8_set_four pl⟩

/-! ### The fifth byte that passes (R97) -/

/-- The sum of five written bytes, at any one choice of the fifth. -/
theorem sum8_mk_fifth (a b c d e e' : Byte) : sum8 #v[a, b, c, d, e] = sum8 #v[a, b, c, d, e'] :=
  sum8_set_four #v[a, b, c, d, e'] e

/-- The one fifth byte that passes is the sum itself, which no fifth byte changes. -/
theorem existsUnique_checksum (a b c d : Byte) : ∃! e : Byte, sum8 #v[a, b, c, d, e] = e := by
  refine ⟨sum8 #v[a, b, c, d, 0], sum8_mk_fifth .., fun e he => ?_⟩
  calc e = sum8 #v[a, b, c, d, e] := he.symm
    _ = sum8 #v[a, b, c, d, 0] := sum8_mk_fifth ..

/-- Four bytes 0xFF sum to 1020 = 0x3FC, whatever the fifth is. -/
theorem sum8_all_ones (e : Byte) : sum8 #v[0xFF, 0xFF, 0xFF, 0xFF, e] = 0xFC :=
  (sum8_mk_fifth _ _ _ _ e 0).trans (by decide)

/-! ### The frame of `VALIDATE` (R97, R113) -/

/-- Nothing but the phase and the responses differs: no other register, port operation or host word. -/
def OnlyPhaseAndResponses (s t : State) : Prop :=
  SameReading s t ∧ SameCapture s t ∧ SameHost s t ∧ NoPortOperation s t ∧ t.cmd = s.cmd ∧
    t.holdStart = s.holdStart ∧ t.pl = s.pl

theorem goto_onlyPhaseAndResponses (s : State) (p : Phase) : OnlyPhaseAndResponses s (s.goto p) := by
  simp [OnlyPhaseAndResponses, SameReading, SameCapture, SameHost, NoPortOperation, NoTimeRead, NoLineRead]

theorem raise_onlyPhaseAndResponses (s : State) (e : SensorError) : OnlyPhaseAndResponses s (s.raise e) := by
  simp [OnlyPhaseAndResponses, SameReading, SameCapture, SameHost, NoPortOperation, NoTimeRead, NoLineRead]

/-- Settles O31, by the two ways of `VALIDATE`, each with its comparison read as one of numbers. -/
theorem validateAcceptsExactlyTheRightChecksum : Obligations.ValidateAcceptsExactlyTheRightChecksum := by
  unfold Obligations.ValidateAcceptsExactlyTheRightChecksum
  refine ⟨fun s => ?_, existsUnique_checksum, by decide, fun e => ?_⟩
  · obtain ⟨hsum, hexec⟩ | ⟨hsum, hexec⟩ := exec_validate_cases s
    · rw [sum8_eq_iff] at hsum
      exact ⟨_, hexec, fun _ => ⟨s.goto_phase .commit, s.goto_responses .commit⟩, fun hne => absurd hsum hne,
        goto_onlyPhaseAndResponses s .commit⟩
    · rw [Ne, sum8_eq_iff] at hsum
      exact ⟨_, hexec, fun heq => absurd heq hsum,
        fun _ => ⟨s.raise_phase .invalidChecksum, s.raise_responses .invalidChecksum⟩,
        raise_onlyPhaseAndResponses s .invalidChecksum⟩
  · rw [sum8_all_ones, eq_comm]

end Sys2Proof.Machine
end

section
/-! PROOFS. The frames as equations, and the ways of a step: one constructor for each, from which the statements about
every step are derived by cases. -/

namespace Sys2Proof.Machine

/-! ### The frames are what they say, field by field -/

section frames

variable {s t : State}

@[simp] theorem sameReading_iff : SameReading s t ↔ t.rdValid = s.rdValid ∧ t.rdHInt = s.rdHInt ∧
    t.rdHDec = s.rdHDec ∧ t.rdTInt = s.rdTInt ∧ t.rdTDec = s.rdTDec ∧ t.rdMeasuredAt = s.rdMeasuredAt := Iff.rfl

@[simp] theorem sameCapture_iff : SameCapture s t ↔ t.capTooMany = s.capTooMany ∧ t.capLevel = s.capLevel ∧
    t.capCount = s.capCount ∧ t.capStall = s.capStall ∧ t.capLastTs = s.capLastTs ∧ t.capBuf = s.capBuf := Iff.rfl

@[simp] theorem sameHost_iff : SameHost s t ↔ t.hostIn = s.hostIn ∧ t.hostProgram = s.hostProgram ∧
    t.lineTampered = s.lineTampered ∧ t.portReq = s.portReq := Iff.rfl

@[simp] theorem noTimeRead_iff : NoTimeRead s t ↔ t.timeScript = s.timeScript ∧ t.timeReads = s.timeReads ∧
    t.timeCount = s.timeCount := Iff.rfl

@[simp] theorem oneTimeRead_iff : OneTimeRead s t ↔ t.timeCount = s.drawCount ∧ t.timeScript = s.timeScript.tail ∧
    t.timeReads = s.timeReads + 1 := Iff.rfl

@[simp] theorem noLineRead_iff : NoLineRead s t ↔ t.lineScript = s.lineScript ∧ t.lineReads = s.lineReads := Iff.rfl

@[simp] theorem oneLineRead_iff : OneLineRead s t ↔ t.lineScript = s.lineScript.tail ∧
    t.lineReads = s.lineReads + 1 := Iff.rfl

@[simp] theorem noPortOperation_iff : NoPortOperation s t ↔ t.trace = s.trace ∧ t.line = s.line ∧ NoTimeRead s t ∧
    NoLineRead s t := Iff.rfl

end frames

/-! ### The ways of a step -/

/-- The ways of the operation a phase performs, from a state to the next (R82 to R101): one constructor for each. -/
inductive PhaseMove (s : State) : State → Prop
  | waits (hp : s.phase = .idle) : PhaseMove s s
  | checkWithout (hp : s.phase = .check) (hv : s.rdValid = false) : PhaseMove s (s.goto .initHigh)
  | checkHits (hp : s.phase = .check) (hv : s.rdValid = true)
      (he : (s.drawElapsed s.rdMeasuredAt).toNat < 200000) :
      PhaseMove s ((s.readElapsed s.rdMeasuredAt).goto .answer)
  | checkMisses (hp : s.phase = .check) (hv : s.rdValid = true)
      (he : 200000 ≤ (s.drawElapsed s.rdMeasuredAt).toNat) :
      PhaseMove s ((s.readElapsed s.rdMeasuredAt).goto .initHigh)
  | initHigh (hp : s.phase = .initHigh) :
      PhaseMove s ((((s.setOutput .down).writeLine .high).readTime.startHold s.drawTime).goto .holdHigh)
  | holdHighRepeats (hp : s.phase = .holdHigh) (he : (s.drawElapsed s.holdStart).toNat < 50000) :
      PhaseMove s ((s.readElapsed s.holdStart).goto .holdHigh)
  | holdHighEnds (hp : s.phase = .holdHigh) (he : 50000 ≤ (s.drawElapsed s.holdStart).toNat) :
      PhaseMove s ((s.readElapsed s.holdStart).goto .initLow)
  | initLow (hp : s.phase = .initLow) :
      PhaseMove s (((s.writeLine .low).readTime.startHold s.drawTime).goto .holdLow)
  | holdLowRepeats (hp : s.phase = .holdLow) (he : (s.drawElapsed s.holdStart).toNat < 18000) :
      PhaseMove s ((s.readElapsed s.holdStart).goto .holdLow)
  | holdLowEnds (hp : s.phase = .holdLow) (he : 18000 ≤ (s.drawElapsed s.holdStart).toNat) :
      PhaseMove s ((s.readElapsed s.holdStart).goto .arm)
  | arm (hp : s.phase = .arm) : PhaseMove s (((s.setInput .up).readTime.armCapture s.drawTime).goto .poll)
  | pollOverflows (hp : s.phase = .poll) (hl : s.drawLevel ≠ s.capLevel) (hc : s.capCount = 84) :
      PhaseMove s (s.readLine.readTime.setTooMany.goto .release)
  | pollRecords (hp : s.phase = .poll) (hl : s.drawLevel ≠ s.capLevel) (hc : s.capCount < 84) :
      PhaseMove s ((s.readLine.readTime.recordTransition s.drawTime).goto .poll)
  | pollWaits (hp : s.phase = .poll) (hl : s.drawLevel = s.capLevel) (hs : s.capStall < 100) :
      PhaseMove s (s.readLine.readTime.countStall.goto .poll)
  | pollStalls (hp : s.phase = .poll) (hl : s.drawLevel = s.capLevel) (hs : 100 ≤ s.capStall) :
      PhaseMove s (s.readLine.readTime.countStall.goto .release)
  | release (hp : s.phase = .release) : PhaseMove s (((s.setOutput .down).writeLine .low).goto .finish)
  | finishTooMany (hp : s.phase = .finish) (hm : s.capTooMany = true) : PhaseMove s (s.raise .tooManyPulses)
  | finishWrongCount (hp : s.phase = .finish) (hm : s.capTooMany = false) (hc : s.capCount ≠ 84) :
      PhaseMove s (s.raise (.wrongPulseCount 84 s.capCount))
  | finishPasses (hp : s.phase = .finish) (hm : s.capTooMany = false) (hc : s.capCount = 84) :
      PhaseMove s (s.goto .decode)
  | decode (hp : s.phase = .decode) : PhaseMove s ((s.setPayload (payloadOf s.capBuf)).goto .validate)
  | validatePasses (hp : s.phase = .validate) (hsum : sum8 s.pl = s.pl[4]) : PhaseMove s (s.goto .commit)
  | validateFails (hp : s.phase = .validate) (hsum : sum8 s.pl ≠ s.pl[4]) : PhaseMove s (s.raise .invalidChecksum)
  | commit (hp : s.phase = .commit) : PhaseMove s ((s.readTime.commitReading s.drawTime).goto .answer)
  | answer (hp : s.phase = .answer) : PhaseMove s (s.respond s.answerWord)

section moves

variable {s t : State}

theorem checkMove (hp : s.phase = .check) (h : exec .check s = .next t) : PhaseMove s t := by
  cases hv : s.rdValid with
  | false =>
    rw [exec_check_invalid hv] at h
    cases h
    exact .checkWithout hp hv
  | true =>
    rw [exec_check_valid hv] at h
    cases h
    split
    · exact .checkHits hp hv ‹_›
    · exact .checkMisses hp hv (Nat.not_lt.mp ‹_›)

theorem holdHighMove (hp : s.phase = .holdHigh) (h : exec .holdHigh s = .next t) : PhaseMove s t := by
  cases h
  split
  · exact .holdHighEnds hp ‹_›
  · exact .holdHighRepeats hp (Nat.not_le.mp ‹_›)

theorem holdLowMove (hp : s.phase = .holdLow) (h : exec .holdLow s = .next t) : PhaseMove s t := by
  cases h
  split
  · exact .holdLowEnds hp ‹_›
  · exact .holdLowRepeats hp (Nat.not_le.mp ‹_›)

theorem pollMove (hp : s.phase = .poll) (h : exec .poll s = .next t) : PhaseMove s t := by
  obtain ⟨hl, hc, rfl⟩ | ⟨hl, hc, rfl⟩ | ⟨hl, rfl⟩ := exec_poll_cases h
  · exact .pollOverflows hp hl hc
  · exact .pollRecords hp hl hc
  · split
    · exact .pollStalls hp hl (Nat.lt_succ_iff.mp ‹_›)
    · exact .pollWaits hp hl (Nat.not_lt.mp ‹_›)

theorem finishMove (hp : s.phase = .finish) (h : exec .finish s = .next t) : PhaseMove s t := by
  obtain ⟨hm, he⟩ | ⟨hm, hc, he⟩ | ⟨hm, hc, he⟩ := exec_finish_cases s <;> rw [he] at h <;> cases h
  · exact .finishTooMany hp hm
  · exact .finishWrongCount hp hm hc
  · exact .finishPasses hp hm hc

theorem validateMove (hp : s.phase = .validate) (h : exec .validate s = .next t) : PhaseMove s t := by
  obtain ⟨hsum, he⟩ | ⟨hsum, he⟩ := exec_validate_cases s <;> rw [he] at h <;> cases h
  · exact .validatePasses hp hsum
  · exact .validateFails hp hsum

/-- The operation of the phase takes one of its ways. -/
theorem phaseMove_of_exec (ho : s.hostOffer = none) (h : exec s.phase.instr s = .next t) : PhaseMove s t := by
  cases hp : s.phase <;> rw [hp] at h
  case idle =>
    obtain rfl : s = t := Host.Outcome.next.inj ((exec_idle_waits ho).symm.trans h)
    exact .waits hp
  case check => exact checkMove hp h
  case initHigh =>
    cases h
    exact .initHigh hp
  case holdHigh => exact holdHighMove hp h
  case initLow =>
    cases h
    exact .initLow hp
  case holdLow => exact holdLowMove hp h
  case arm =>
    cases h
    exact .arm hp
  case poll => exact pollMove hp h
  case release =>
    cases h
    exact .release hp
  case finish => exact finishMove hp h
  case decode =>
    cases h
    exact .decode hp
  case validate => exact validateMove hp h
  case commit =>
    cases h
    exact .commit hp
  case answer =>
    cases h
    exact .answer hp

end moves

/-- The ways of a step that goes on: a lone port operation in a direction it may be issued in, the acceptance of a
command, of which the host then offers no more than what is left (`hostIn`, `hostProgram`), or a way of the phase. -/
inductive StepMove (s : State) : State → Prop
  | port (op : PortOp) (hreq : s.portReq = some op) : StepMove s (portEffect op s.takePort)
  | accepts (c : HostCmd) (hostIn : Option Byte) (hostProgram : List Byte) (hreq : s.portReq = none)
      (hp : s.phase = .idle) : StepMove s ({ s with hostIn, hostProgram }.accept c)
  | phase {t : State} (hreq : s.portReq = none) (hm : PhaseMove s t) : StepMove s t

/-- What is left when the host's word has been taken: nothing of the state but the host's offer has changed. -/
theorem hostOffer_rest_eq {s rest : State} {w : Byte} (h : s.hostOffer = some (w, rest)) :
    ∃ hostIn hostProgram, rest = { s with hostIn, hostProgram } := by
  obtain rfl | ⟨ws, rfl⟩ := hostOffer_rest h
  · exact ⟨none, s.hostProgram, rfl⟩
  · exact ⟨s.hostIn, ws, rfl⟩

theorem hostOffer_rest_phase {s rest : State} {w : Byte} (h : s.hostOffer = some (w, rest)) : rest.phase = s.phase := by
  obtain ⟨hostIn, hostProgram, rfl⟩ := hostOffer_rest_eq h
  rfl

/-- A step that goes on takes one of its ways. -/
theorem stepMove_of_step {s t : State} (h : step s = .next t) : StepMove s t := by
  obtain ⟨-, ⟨op, hreq, he⟩ | ⟨hreq, hp, c, rest, ho, rfl⟩ | ⟨hreq, ho, he⟩⟩ := step_cases h
  · rw [exec_port_eq_next he]
    exact .port op hreq
  · obtain ⟨hostIn, hostProgram, rfl⟩ := hostOffer_rest_eq ho
    exact .accepts c hostIn hostProgram hreq hp
  · exact .phase hreq (phaseMove_of_exec ho he)

/-- With no lone port operation waiting, a step accepts a command or takes a way of its phase. -/
theorem step_inversion {s t : State} (hreq : s.portReq = none) (h : step s = .next t) :
    (s.phase = .idle ∧ ∃ c hostIn hostProgram, t = { s with hostIn, hostProgram }.accept c) ∨ PhaseMove s t := by
  cases stepMove_of_step h with
  | port op hreq' => simp [hreq] at hreq'
  | accepts c hostIn hostProgram hreq' hp => exact .inl ⟨hp, c, hostIn, hostProgram, rfl⟩
  | phase hreq' hm => exact .inr hm

end Sys2Proof.Machine
end

section
/-! PROOFS. The two invariants of the block: the capture registers (R36, R87, R115), and the line's configuration
(R33). -/

namespace Sys2Proof.Machine

/-! ### The capture invariant, by the phase a step leads to -/

section capture

variable {s t : State}

/-- The bounds of the capture registers, which hold in every phase. -/
def State.CaptureBounds (s : State) : Prop :=
  s.capCount ≤ 84 ∧ s.capStall ≤ 101 ∧ (s.capTooMany = true → s.capCount = 84)

theorem State.CaptureInv.bounds (h : s.CaptureInv) : s.CaptureBounds := ⟨h.count_le, h.stall_le, h.tooMany_count⟩

/-- In a phase that uses no capture register, no payload and no Reading, the bounds are all the invariant asks. -/
theorem captureInv_of_bounds (hb : s.CaptureBounds)
    (hp : s.phase ∉ [Phase.poll, .release, .finish, .decode, .validate, .commit, .answer]) : s.CaptureInv := by
  obtain ⟨hcount, hstall, htoo⟩ := hb
  simp only [List.mem_cons, List.not_mem_nil, or_false, not_or] at hp
  exact ⟨hcount, hstall, htoo, by simp [hp], by simp [hp], by simp [hp], by simp [hp], by simp [hp], by simp [hp]⟩

theorem captureInv_of_answer (hb : s.CaptureBounds) (hp : s.phase = .answer) (hv : s.rdValid = true) :
    s.CaptureInv := by
  obtain ⟨hcount, hstall, htoo⟩ := hb
  exact ⟨hcount, hstall, htoo, by simp [hp], by simp [hp], by simp [hp], by simp [hp], by simp [hp], fun _ => hv⟩

theorem captureInv_of_poll (hp : s.phase = .poll) (hc : s.capCount ≤ 84) (hs : s.capStall ≤ 100)
    (hm : s.capTooMany = false) (hl : s.capLevel = trackedLevel s.capCount) : s.CaptureInv :=
  ⟨hc, Nat.le_succ_of_le hs, by simp [hm], fun _ => ⟨hm, hs⟩, by simp [hp], fun _ => hl, by simp [hp], by simp [hp],
    by simp [hp]⟩

/-- At either end of the loop (R115). -/
theorem captureInv_of_ended (hp : s.phase = .release ∨ s.phase = .finish) (hc : s.capCount ≤ 84)
    (he : s.capTooMany = true ∧ s.capCount = 84 ∧ s.capStall ≤ 100 ∨ s.capTooMany = false ∧ s.capStall = 101)
    (hl : s.capLevel = trackedLevel s.capCount) : s.CaptureInv := by
  have hne : s.phase ≠ .poll ∧ s.phase ≠ .decode ∧ s.phase ≠ .validate ∧ s.phase ≠ .commit ∧ s.phase ≠ .answer := by
    obtain hp | hp := hp <;> simp [hp]
  have hbounds : s.capStall ≤ 101 ∧ (s.capTooMany = true → s.capCount = 84) := by
    obtain ⟨hm, hc84, hs⟩ | ⟨hm, hs⟩ := he
    · exact ⟨Nat.le_succ_of_le hs, fun _ => hc84⟩
    · exact ⟨hs.le, by simp [hm]⟩
  exact ⟨hc, hbounds.1, hbounds.2, by simp [hne], fun _ => he.imp_left fun ⟨hm, _, hs⟩ => ⟨hm, hs⟩, fun _ => hl,
    by simp [hne], by simp [hne], by simp [hne]⟩

/-- With all 84 transitions recorded (R37, R91). -/
theorem captureInv_of_full (hb : s.CaptureBounds) (hp : s.phase = .decode ∨ s.phase = .validate ∨ s.phase = .commit)
    (hm : s.capTooMany = false) (hc : s.capCount = 84) (hsum : s.phase = .commit → sum8 s.pl = s.pl[4]) :
    s.CaptureInv := by
  obtain ⟨hcount, hstall, htoo⟩ := hb
  have hne : s.phase ≠ .poll ∧ s.phase ≠ .release ∧ s.phase ≠ .finish ∧ s.phase ≠ .answer := by
    obtain hp | hp | hp := hp <;> simp [hp]
  exact ⟨hcount, hstall, htoo, by simp [hne], by simp [hne], by simp [hne], fun _ => ⟨hm, hc⟩, hsum, by simp [hne]⟩

/-- A port operation issued alone touches none of the registers the invariant speaks of (R46). -/
theorem captureInv_portEffect (h : s.CaptureInv) (op : PortOp) : (portEffect op s).CaptureInv := by
  cases op <;> exact { h with }

theorem captureInv_phaseMove (h : s.CaptureInv) (hm : PhaseMove s t) : t.CaptureInv := by
  have hb := h.bounds
  cases hm with
  | waits => exact h
  | checkWithout | checkMisses | initHigh | holdHighRepeats | holdHighEnds | initLow | holdLowRepeats | holdLowEnds =>
    exact captureInv_of_bounds hb (by simp)
  | finishTooMany | finishWrongCount | validateFails | answer => exact captureInv_of_bounds hb (by simp)
  | checkHits _ hv => exact captureInv_of_answer hb rfl hv
  | commit => exact captureInv_of_answer hb rfl rfl
  | arm => exact captureInv_of_poll rfl (Nat.zero_le _) (Nat.zero_le _) rfl rfl
  | pollOverflows hp hl hc =>
    exact captureInv_of_ended (.inl rfl) hb.1 (.inl ⟨rfl, hc, (h.polling hp).2⟩) (h.tracked (.inl hp))
  | pollRecords hp hl hc =>
    have hlevel : s.capLevel.toggle = trackedLevel (s.capCount + 1) := by
      rw [h.tracked (.inl hp), trackedLevel_toggle]
    exact captureInv_of_poll rfl hc (Nat.zero_le _) (h.polling hp).1 hlevel
  | pollWaits hp hl hs => exact captureInv_of_poll rfl hb.1 hs (h.polling hp).1 (h.tracked (.inl hp))
  | pollStalls hp hl hs =>
    have hstall : s.capStall + 1 = 101 := congrArg (· + 1) (Nat.le_antisymm (h.polling hp).2 hs)
    exact captureInv_of_ended (.inl rfl) hb.1 (.inr ⟨(h.polling hp).1, hstall⟩) (h.tracked (.inl hp))
  | release hp => exact { h with
      polling := nofun
      ended := fun _ => h.ended (.inl hp)
      tracked := fun _ => h.tracked (.inr (.inl hp))
      full := nofun
      checked := nofun
      valid := nofun }
  | finishPasses hp hm hc => exact captureInv_of_full hb (.inl rfl) hm hc nofun
  | decode hp =>
    obtain ⟨hm, hc⟩ := h.full (.inl hp)
    exact captureInv_of_full hb (.inr (.inl rfl)) hm hc nofun
  | validatePasses hp hsum =>
    obtain ⟨hm, hc⟩ := h.full (.inr (.inl hp))
    exact captureInv_of_full hb (.inr (.inr rfl)) hm hc fun _ => hsum

end capture

/-- Settles O39: in `IDLE` only the bounds are asked, and the registers are 0. -/
theorem captureInvariantHoldsAtReset : Obligations.CaptureInvariantHoldsAtReset := by
  unfold Obligations.CaptureInvariantHoldsAtReset
  exact captureInv_of_bounds (by simp [State.CaptureBounds, State.reset]) (by simp [State.reset])

/-- Settles O40, by the ways of a step. -/
theorem captureInvariantIsKept : Obligations.CaptureInvariantIsKept := by
  unfold Obligations.CaptureInvariantIsKept
  intro s t h hstep
  cases stepMove_of_step hstep with
  | port op =>
    have htake : s.takePort.CaptureInv := { h with }
    exact captureInv_portEffect htake op
  | accepts => exact captureInv_of_bounds h.bounds (by simp)
  | phase _ hm => exact captureInv_phaseMove h hm

/-! ### The invariant of the line's configuration, by the phase a step leads to (R33) -/

section line

variable {s t : State}

/-- Between captures: nothing but the reset value has been on the line, or it has been released since. -/
def State.LineIdle (s : State) : Prop :=
  (s.trace = [] ∧ s.rdValid = false ∧ s.line = Config.lineResetCfg) ∨ s.line = releasedCfg

theorem lineInv_of_between (hreq : s.portReq = none)
    (hp : s.phase = .idle ∨ s.phase = .check ∨ s.phase = .initHigh ∨ s.phase = .answer) (hl : s.LineIdle) :
    s.LineInv := by
  refine ⟨hreq, ?_, ?_, ?_, ?_, fun _ => hl⟩ <;> obtain hp | hp | hp | hp := hp <;> simp [hp]

theorem lineInv_of_drivenHigh (hreq : s.portReq = none) (hp : s.phase = .holdHigh ∨ s.phase = .initLow)
    (hl : s.line = drivenHighCfg) : s.LineInv := by
  refine ⟨hreq, fun _ => hl, ?_, ?_, ?_, ?_⟩ <;> obtain hp | hp := hp <;> simp [hp]

theorem lineInv_of_drivenLow (hreq : s.portReq = none) (hp : s.phase = .holdLow ∨ s.phase = .arm)
    (hl : s.line = releasedCfg) : s.LineInv := by
  refine ⟨hreq, ?_, fun _ => hl, ?_, ?_, ?_⟩ <;> obtain hp | hp := hp <;> simp [hp]

theorem lineInv_of_polling (hreq : s.portReq = none) (hp : s.phase = .poll ∨ s.phase = .release)
    (hl : s.line = pollingCfg) : s.LineInv := by
  refine ⟨hreq, ?_, ?_, fun _ => hl, ?_, ?_⟩ <;> obtain hp | hp := hp <;> simp [hp]

theorem lineInv_of_released (hreq : s.portReq = none)
    (hp : s.phase = .finish ∨ s.phase = .decode ∨ s.phase = .validate ∨ s.phase = .commit)
    (hl : s.line = releasedCfg) : s.LineInv := by
  refine ⟨hreq, ?_, ?_, ?_, fun _ => hl, ?_⟩ <;> obtain hp | hp | hp | hp := hp <;> simp [hp]

theorem lineInv_phaseMove (h : s.LineInv) (hm : PhaseMove s t) : t.LineInv := by
  have hreq := h.noPort
  cases hm with
  | waits => exact h
  | checkWithout hp => exact lineInv_of_between hreq (by simp) (h.between (by simp [hp]))
  | checkHits hp hv | checkMisses hp hv =>
    have hl : s.line = releasedCfg := by simpa [hv] using h.between (.inr (.inl hp))
    exact lineInv_of_between hreq (by simp) (.inr hl)
  | initHigh => exact lineInv_of_drivenHigh hreq (by simp) rfl
  | holdHighRepeats hp | holdHighEnds hp =>
    exact lineInv_of_drivenHigh hreq (by simp) (h.drivenHigh (.inl hp))
  | initLow hp =>
    exact lineInv_of_drivenLow hreq (by simp) (by simp [h.drivenHigh (.inr hp), drivenHighCfg, releasedCfg])
  | holdLowRepeats hp | holdLowEnds hp => exact lineInv_of_drivenLow hreq (by simp) (h.drivenLow (.inl hp))
  | arm hp =>
    exact lineInv_of_polling hreq (by simp) (by simp [h.drivenLow (.inr hp), releasedCfg, pollingCfg])
  | pollOverflows hp | pollRecords hp | pollWaits hp | pollStalls hp =>
    exact lineInv_of_polling hreq (by simp) (h.polling (.inl hp))
  | release => exact lineInv_of_released hreq (by simp) rfl
  | finishPasses hp | decode hp | validatePasses hp =>
    exact lineInv_of_released hreq (by simp) (h.released (by simp [hp]))
  | finishTooMany hp | finishWrongCount hp | validateFails hp | commit hp =>
    exact lineInv_of_between hreq (by simp) (.inr (h.released (by simp [hp])))
  | answer hp => exact lineInv_of_between hreq (by simp) (h.between (by simp [hp]))

end line

/-- Settles O41: in `IDLE`, before any port operation, the line is at its reset value. -/
theorem lineInvariantHoldsAtReset : Obligations.LineInvariantHoldsAtReset := by
  unfold Obligations.LineInvariantHoldsAtReset
  exact lineInv_of_between rfl (.inl rfl) (.inl ⟨rfl, rfl, rfl⟩)

/-- Settles O42, by the ways of a step; under the invariant no lone port operation waits. -/
theorem lineInvariantIsKept : Obligations.LineInvariantIsKept := by
  unfold Obligations.LineInvariantIsKept
  intro s t h hstep
  obtain ⟨hp, c, hostIn, hostProgram, rfl⟩ | hm := step_inversion h.noPort hstep
  · exact lineInv_of_between h.noPort (by simp) (h.between (.inl hp))
  · exact lineInv_phaseMove h hm

end Sys2Proof.Machine
end

section
/-! PROOFS. What every step keeps: the phases it may lead to (R107), the Reading (R108), the responses (R52, R113), the
count of the time source (R78) and the port trace (R50, R60). -/

namespace Sys2Proof.Machine

section moves

variable {s t : State}

theorem step_portReq_none (hreq : s.portReq = none) (h : step s = .next t) : t.portReq = none := by
  obtain ⟨-, c, hostIn, hostProgram, rfl⟩ | hm := step_inversion hreq h
  · exact hreq
  · cases hm <;> exact hreq

/-! ### The Reading (R108) -/

theorem portEffect_sameReading (op : PortOp) (s : State) : SameReading s (portEffect op s) := by
  cases op <;> exact ⟨rfl, rfl, rfl, rfl, rfl, rfl⟩

/-- Only `COMMIT` replaces the Reading. -/
theorem phaseMove_reading (hm : PhaseMove s t) :
    SameReading s t ∨ (s.phase = .commit ∧ t = (s.readTime.commitReading s.drawTime).goto .answer) := by
  cases hm
  case commit hp => exact .inr ⟨hp, rfl⟩
  all_goals exact .inl ⟨rfl, rfl, rfl, rfl, rfl, rfl⟩

/-! ### The responses (R52, R62, R113) -/

/-- The step from `s` to `t` ends the command with the response `r`: of `ANSWER`, with status `OK`, or of an error,
with another. -/
def Delivers (s t : State) (r : BitVec 72) : Prop :=
  t.responses = s.responses ++ [r] ∧ t.phase = .idle ∧ OnlyPhaseAndResponses s t ∧
    (s.phase = .answer ∧ statusOf r = 0x00#8 ∨
      (s.phase = .finish ∨ s.phase = .validate) ∧ statusOf r ≠ 0x00#8)

/-- The step from `s` to `t` delivers no response, and comes to `IDLE` only by waiting there. -/
def DeliversNothing (s t : State) : Prop :=
  t.responses = s.responses ∧ s.phase ≠ .answer ∧ (t.phase = .idle → t = s)

theorem respond_onlyPhaseAndResponses (s : State) (r : BitVec 72) : OnlyPhaseAndResponses s (s.respond r) := by
  simp [OnlyPhaseAndResponses]

theorem raise_delivers (hp : s.phase = .finish ∨ s.phase = .validate) (e : SensorError) :
    Delivers s (s.raise e) e.word :=
  ⟨rfl, rfl, raise_onlyPhaseAndResponses s e, .inr ⟨hp, statusOf_word_ne e⟩⟩

theorem phaseMove_responses (hm : PhaseMove s t) : (∃ r, Delivers s t r) ∨ DeliversNothing s t := by
  cases hm
  case waits hp => exact .inr ⟨rfl, by simp [hp], fun _ => rfl⟩
  case answer hp =>
    exact .inl ⟨_, rfl, rfl, respond_onlyPhaseAndResponses s _, .inl ⟨hp, statusOf_answerWord s⟩⟩
  case finishTooMany hp _ => exact .inl ⟨_, raise_delivers (.inl hp) _⟩
  case finishWrongCount hp _ _ => exact .inl ⟨_, raise_delivers (.inl hp) _⟩
  case validateFails hp _ => exact .inl ⟨_, raise_delivers (.inr hp) _⟩
  all_goals exact .inr ⟨rfl, by simp [*], nofun⟩

/-- A step delivers one response and ends in `IDLE`, or it delivers none. -/
theorem step_responses (hreq : s.portReq = none) (h : step s = .next t) :
    (∃ r, Delivers s t r) ∨ DeliversNothing s t := by
  obtain ⟨hp, c, hostIn, hostProgram, rfl⟩ | hm := step_inversion hreq h
  · exact .inr ⟨rfl, by simp [hp], nofun⟩
  · exact phaseMove_responses hm

theorem deliversNothing_of_idle (hd : (∃ r, Delivers s t r) ∨ DeliversNothing s t)
    (hp : s.phase = .idle ∨ t.phase ≠ .idle) : DeliversNothing s t := by
  obtain ⟨r, -, hidle, -, hphase⟩ | hd := hd
  · have hstart : s.phase = .idle := hp.resolve_right (not_not.mpr hidle)
    simp [hstart] at hphase
  · exact hd

theorem SameReading.trans {u : State} (h : SameReading s t) (h' : SameReading t u) : SameReading s u := by
  simp_all

end moves

/-- Settles O45, by the ways of a step. -/
theorem phaseTransitionsAreThoseOfTheTable : Obligations.PhaseTransitionsAreThoseOfTheTable := by
  unfold Obligations.PhaseTransitionsAreThoseOfTheTable
  intro s t hreq hstep
  obtain ⟨hp, c, hostIn, hostProgram, rfl⟩ | hm := step_inversion hreq hstep
  · simp [hp]
  · cases hm <;> simp [*]

/-- Settles O46: a lone port operation and the acceptance of a command touch no Reading, and of the phases only `COMMIT`
replaces it. -/
theorem onlyCommitChangesTheReading : Obligations.OnlyCommitChangesTheReading := by
  unfold Obligations.OnlyCommitChangesTheReading
  intro s t hstep
  have hmove : SameReading s t ∨ (s.phase = .commit ∧ t = (s.readTime.commitReading s.drawTime).goto .answer) := by
    cases stepMove_of_step hstep with
    | port op => exact .inl (portEffect_sameReading op s.takePort)
    | accepts => exact .inl ⟨rfl, rfl, rfl, rfl, rfl, rfl⟩
    | phase _ hm => exact phaseMove_reading hm
  obtain hsame | ⟨hp, rfl⟩ := hmove
  · exact ⟨.inl hsame, hsame.1.trans⟩
  · exact ⟨.inr ⟨hp, rfl, rfl, rfl, rfl, rfl, rfl⟩, fun _ => rfl⟩

/-- Settles O47, by the two kinds of step: one that delivers and one that does not. -/
theorem oneResponsePerReturnToIdle : Obligations.OneResponsePerReturnToIdle := by
  unfold Obligations.OneResponsePerReturnToIdle
  intro s t hreq hstep
  have hd := step_responses hreq hstep
  refine ⟨fun hne hidle => ?_, fun hp => (deliversNothing_of_idle hd hp).1⟩
  obtain ⟨r, hr, -⟩ | ⟨-, -, hwait⟩ := hd
  · exact ⟨r, hr⟩
  · exact absurd (hwait hidle ▸ hidle) hne

/-- Settles O48: an error is delivered by `FINISH` or `VALIDATE` alone, where the line's invariant has it released. -/
theorem errorsLeaveTheLineReleased : Obligations.ErrorsLeaveTheLineReleased := by
  unfold Obligations.ErrorsLeaveTheLineReleased
  intro s t r hinv hstep hresp hstatus
  obtain ⟨r', hr', hidle, hframe, ⟨-, hok⟩ | ⟨hp, -⟩⟩ | ⟨hnone, -⟩ := step_responses hinv.noPort hstep
  · obtain rfl : r = r' := by simpa [hresp] using hr'
    exact absurd hok hstatus
  · obtain ⟨hreading, hcapture, -, hport, hcmd, hhold, hpl⟩ := hframe
    have hline : t.line = releasedCfg := hport.2.1.trans (hinv.released (by tauto))
    exact ⟨by rw [hline]; rfl, hidle, hreading, hcapture, hport, hcmd, hhold, hpl⟩
  · simp [hresp] at hnone

/-! ### A command that ends in an error (R113) -/

/-- Along a run from `s`, in which a command runs: no response yet, with the Reading as it was or about to be answered
with status `OK`; one response, `OK` or with the Reading as it was when the block is in `IDLE`; or more than one. -/
def ErrorKeepsReading (s u : State) : Prop :=
  u.portReq = none ∧
    ((u.responses = s.responses ∧ u.phase ≠ .idle ∧ (SameReading s u ∨ u.phase = .answer)) ∨
    (∃ r, u.responses = s.responses ++ [r] ∧ (u.phase = .idle → SameReading s u ∨ statusOf r = 0x00#8)) ∨
    s.responses.length + 2 ≤ u.responses.length)

section error

variable {s u v : State}

/-- A response ends the command, or is one too many. -/
theorem errorKeepsReading_delivers {r : BitVec 72} (h : ErrorKeepsReading s u) (hreq : v.portReq = none)
    (hd : Delivers u v r) : ErrorKeepsReading s v := by
  obtain ⟨hresp, hidle, hframe, hphase⟩ := hd
  refine ⟨hreq, .inr ?_⟩
  obtain ⟨-, ⟨hnone, -, hsame⟩ | ⟨r', hone, -⟩ | hmore⟩ := h
  · refine .inl ⟨r, by rw [hresp, hnone], fun _ => ?_⟩
    obtain hsame | hanswer := hsame
    · exact .inl (hsame.trans hframe.1)
    · exact .inr (by simpa [hanswer] using hphase)
  · exact .inr (by simp [hresp, hone])
  · exact .inr (by simp [hresp]; omega)

/-- A step without a response changes the Reading only on the way to `ANSWER`. -/
theorem errorKeepsReading_deliversNothing (h : ErrorKeepsReading s u) (hreq : v.portReq = none)
    (hd : DeliversNothing u v) (hmove : SameReading u v ∨ v.phase = .answer) : ErrorKeepsReading s v := by
  obtain ⟨hresp, hnot, hwait⟩ := hd
  refine ⟨hreq, ?_⟩
  rw [hresp]
  obtain ⟨-, ⟨hnone, hne, hsame⟩ | ⟨r, hone, hidle⟩ | hmore⟩ := h
  · refine .inl ⟨hnone, fun hidle => hne (hwait hidle ▸ hidle), ?_⟩
    exact hmove.imp_left (hsame.resolve_right hnot).trans
  · refine .inr (.inl ⟨r, hone, ?_⟩)
    intro hi
    obtain rfl := hwait hi
    exact hidle hi
  · exact .inr (.inr hmore)

theorem step_errorKeepsReading (h : ErrorKeepsReading s u) (hstep : step u = .next v) : ErrorKeepsReading s v := by
  have hreq := step_portReq_none h.1 hstep
  obtain ⟨r, hd⟩ | hd := step_responses h.1 hstep
  · exact errorKeepsReading_delivers h hreq hd
  · refine errorKeepsReading_deliversNothing h hreq hd ?_
    obtain ⟨-, c, hostIn, hostProgram, rfl⟩ | hm := step_inversion h.1 hstep
    · exact .inl ⟨rfl, rfl, rfl, rfl, rfl, rfl⟩
    · exact (phaseMove_reading hm).imp_right fun ⟨_, ht⟩ => by rw [ht]; rfl

end error

/-- Settles O49, by the induction along the run: `ErrorKeepsReading` holds at its start and is kept by every step. -/
theorem failedCommandLeavesTheReading : Obligations.FailedCommandLeavesTheReading := by
  unfold Obligations.FailedCommandLeavesTheReading
  intro s t k r hreq hne hrun hidle hresp hstatus
  have hstart : ErrorKeepsReading s s := ⟨hreq, .inl ⟨rfl, hne, .inl ⟨rfl, rfl, rfl, rfl, rfl, rfl⟩⟩⟩
  obtain ⟨-, ⟨-, hne', -⟩ | ⟨r', hone, hsame⟩ | hmore⟩ :=
    runs_induction (fun _ _ => step_errorKeepsReading) hstart hrun
  · exact absurd hidle hne'
  · obtain rfl : r = r' := by simpa [hresp] using hone
    exact (hsame hidle).resolve_right hstatus
  · simp [hresp] at hmore

/-! ### The time source and the trace (R50, R60, R78) -/

section events

variable {s t : State}

/-- The count has not gone back, and every `TIME_NOW` of the events appended has returned it (R75, R78). -/
def TimeGoesOn (s t : State) : Prop :=
  s.timeCount ≤ t.timeCount ∧
    ∃ evs, t.trace = s.trace ++ evs ∧ ∀ w, PortEvent.now w ∈ evs → w = BitVec.ofNat 32 t.timeCount

theorem timeGoesOn_portEffect (op : PortOp) (s : State) : TimeGoesOn s (portEffect op s) := by
  cases op with
  | setOutput | setInput | write | read => exact ⟨le_rfl, [_], rfl, by simp⟩
  | now => exact ⟨s.timeCount_le_drawCount, [_], rfl, by simp [portEffect, State.drawTime]⟩
  | elapsed => exact ⟨s.timeCount_le_drawCount, [_], rfl, by simp⟩

theorem timeGoesOn_phaseMove (hm : PhaseMove s t) : TimeGoesOn s t := by
  cases hm with
  | waits | checkWithout | finishTooMany | finishWrongCount | finishPasses | decode | validatePasses | validateFails
  | answer => exact ⟨le_rfl, [], by simp, by simp⟩
  | release => exact ⟨le_rfl, [.setOutput .down, .write .low], by simp, by simp⟩
  | checkHits | checkMisses | holdHighRepeats | holdHighEnds | holdLowRepeats | holdLowEnds =>
    exact ⟨s.timeCount_le_drawCount, [_], rfl, by simp⟩
  | initHigh =>
    exact ⟨s.timeCount_le_drawCount, [.setOutput .down, .write .high, .now s.drawTime], by simp,
      by simp [State.drawTime]⟩
  | initLow => exact ⟨s.timeCount_le_drawCount, [.write .low, .now s.drawTime], by simp, by simp [State.drawTime]⟩
  | arm => exact ⟨s.timeCount_le_drawCount, [.setInput .up, .now s.drawTime], by simp, by simp [State.drawTime]⟩
  | pollOverflows | pollRecords | pollWaits | pollStalls =>
    exact ⟨s.timeCount_le_drawCount, [.read s.drawLevel, .now s.drawTime], by simp, by simp [State.drawTime]⟩
  | commit => exact ⟨s.timeCount_le_drawCount, [.now s.drawTime], by simp, by simp [State.drawTime]⟩

theorem step_timeGoesOn (h : step s = .next t) : TimeGoesOn s t := by
  cases stepMove_of_step h with
  | port op => exact timeGoesOn_portEffect op s.takePort
  | accepts => exact ⟨le_rfl, [], by simp, by simp⟩
  | phase _ hm => exact timeGoesOn_phaseMove hm

/-- The events of a step whose rules issue them: only operations of R60, a write on an output line only, a read in
`POLL` on an input with pull-up only, and none in the phases that use no port. -/
def EventsOfRules (s t : State) (evs : List PortEvent) : Prop :=
  t.trace = s.trace ++ evs ∧ (∀ ev ∈ evs, ev.op.issuedByRules = true) ∧
    (∀ l, PortEvent.write l ∈ evs → t.line.dir = .output ∧
      (s.line.dir = .output ∨ evs.head? = some (.setOutput .down))) ∧
    (∀ l, PortEvent.read l ∈ evs → s.phase = .poll ∧ s.line.dir = .input ∧ s.line.pull = .up) ∧
    (s.phase = .idle ∨ s.phase = .finish ∨ s.phase = .decode ∨ s.phase = .validate ∨ s.phase = .answer → evs = [])

theorem eventsOfRules_nil (ht : t.trace = s.trace) : EventsOfRules s t [] := by
  simp [EventsOfRules, ht]

theorem eventsOfRules_phaseMove (h : s.LineInv) (hm : PhaseMove s t) : ∃ evs, EventsOfRules s t evs := by
  cases hm with
  | waits | checkWithout | finishTooMany | finishWrongCount | finishPasses | decode | validatePasses | validateFails
  | answer => exact ⟨[], eventsOfRules_nil rfl⟩
  | checkHits hp | checkMisses hp | holdHighRepeats hp | holdHighEnds hp | holdLowRepeats hp | holdLowEnds hp
  | commit hp =>
    exact ⟨_, rfl, by simp [PortEvent.op, PortOp.issuedByRules], by simp, by simp, by simp [hp]⟩
  | initHigh hp =>
    exact ⟨[.setOutput .down, .write .high, .now s.drawTime], by simp, by simp [PortEvent.op, PortOp.issuedByRules],
      by simp, by simp, by simp [hp]⟩
  | initLow hp =>
    have hdir : s.line.dir = .output := by rw [h.drivenHigh (.inr hp)]; rfl
    exact ⟨[.write .low, .now s.drawTime], by simp, by simp [PortEvent.op, PortOp.issuedByRules], by simp [hdir],
      by simp, by simp [hp]⟩
  | arm hp =>
    exact ⟨[.setInput .up, .now s.drawTime], by simp, by simp [PortEvent.op, PortOp.issuedByRules], by simp, by simp,
      by simp [hp]⟩
  | pollOverflows hp | pollRecords hp | pollWaits hp | pollStalls hp =>
    have hline : s.line = pollingCfg := h.polling (.inl hp)
    exact ⟨[.read s.drawLevel, .now s.drawTime], by simp, by simp [PortEvent.op, PortOp.issuedByRules], by simp,
      by simp [hp, hline, pollingCfg], by simp [hp]⟩
  | release hp =>
    exact ⟨[.setOutput .down, .write .low], by simp, by simp [PortEvent.op, PortOp.issuedByRules], by simp, by simp,
      by simp [hp]⟩

end events

/-- Settles O43, by the ways of a step; under the line's invariant no lone port operation waits. -/
theorem blockIssuesOnlyTheOperationsOfItsRules : Obligations.BlockIssuesOnlyTheOperationsOfItsRules := by
  unfold Obligations.BlockIssuesOnlyTheOperationsOfItsRules
  intro s t h hstep
  obtain ⟨hp, c, hostIn, hostProgram, rfl⟩ | hm := step_inversion h.noPort hstep
  · exact ⟨[], eventsOfRules_nil rfl⟩
  · exact eventsOfRules_phaseMove h hm

/-- Settles O44: the events a step appends are those of `TimeGoesOn`. -/
theorem timeNeverStepsBack : Obligations.TimeNeverStepsBack := by
  unfold Obligations.TimeNeverStepsBack
  intro s t hstep
  obtain ⟨hle, evs, htrace, hnow⟩ := step_timeGoesOn hstep
  refine ⟨hle, fun evs' htrace' w hw => hnow w ?_⟩
  rwa [List.append_cancel_left (htrace.symm.trans htrace')]

end Sys2Proof.Machine
end

section
/-! PROOFS. Every armed capture ends and is answered: the capture loop by a decreasing measure (R89), the phases after
it one by one (R90 to R101). -/

namespace Sys2Proof.Machine

section quiet

variable {s t : State}

/-- Nothing but the block acts while a phase is performed. -/
theorem phaseMove_quiet (hq : s.Quiet) (hm : PhaseMove s t) : t.Quiet := by
  cases hm <;> exact hq

/-- An undisturbed step outside `IDLE` that goes on is a way of the phase. -/
theorem phaseMove_of_step (hq : s.Quiet) (hne : s.phase ≠ .idle) (h : step s = .next t) : PhaseMove s t :=
  phaseMove_of_exec (hostOffer_eq_none hq.2.2 hne) (step_quiet hq rfl hne ▸ h)

end quiet

/-! ### The capture loop (R89) -/

/-- The polls a loop can still make: 101 for each transition yet to come, the 85th among them, less those already
counted since the last one. -/
def State.pollsLeft (s : State) : Nat := (84 - s.capCount) * 101 + (101 - s.capStall)

/-- The run of `k` steps from `s` ends the loop, with the block still undisturbed and no response delivered, and is in
`POLL` in every step before. -/
def LeavesLoop (k : Nat) (s t : State) : Prop :=
  Runs k s t ∧ t.phase = .release ∧ t.Quiet ∧ t.responses = s.responses ∧
    ∀ j u, j < k → Runs j s u → u.phase = .poll

section loop

variable {s t u : State} {k : Nat}

theorem step_poll_next (hq : s.Quiet) (hinv : s.CaptureInv) (hp : s.phase = .poll) : ∃ t, step s = .next t :=
  ⟨_, (step_quiet hq hp nofun).trans (exec_poll_next hinv.count_le)⟩

/-- A poll ends the loop or leaves fewer polls to make. -/
theorem exec_poll_progress (hinv : s.CaptureInv) (hp : s.phase = .poll) (h : exec .poll s = .next t) :
    t.responses = s.responses ∧ (t.phase = .release ∨ t.phase = .poll ∧ t.pollsLeft < s.pollsLeft) := by
  have hstall : s.capStall ≤ 100 := (hinv.polling hp).2
  obtain ⟨-, -, rfl⟩ | ⟨-, hc, rfl⟩ | ⟨-, rfl⟩ := exec_poll_cases h
  · exact ⟨rfl, .inl rfl⟩
  · have hc : s.capCount < 84 := hc
    refine ⟨rfl, .inr ⟨rfl, ?_⟩⟩
    simp [State.pollsLeft]
    omega
  · refine ⟨rfl, ?_⟩
    split
    · exact .inl rfl
    · refine .inr ⟨rfl, ?_⟩
      simp [State.pollsLeft]
      omega

theorem leavesLoop_one (h : step s = .next t) (hp : s.phase = .poll) (ht : t.phase = .release) (hq : t.Quiet)
    (hr : t.responses = s.responses) : LeavesLoop 1 s t := by
  refine ⟨runs_cons h (runs_zero t), ht, hq, hr, fun j u hj hrun => ?_⟩
  obtain rfl : j = 0 := Nat.lt_one_iff.mp hj
  rwa [runs_zero_iff.mp hrun]

theorem leavesLoop_cons (h : step s = .next t) (hp : s.phase = .poll) (hr : t.responses = s.responses)
    (hl : LeavesLoop k t u) : LeavesLoop (k + 1) s u := by
  obtain ⟨hrun, hu, hq, hresp, hbefore⟩ := hl
  refine ⟨runs_cons h hrun, hu, hq, hresp.trans hr, fun j v hj hrunj => ?_⟩
  cases j with
  | zero => rwa [runs_zero_iff.mp hrunj]
  | succ j =>
    obtain ⟨t', ht', hrun'⟩ := runs_succ_iff.mp hrunj
    obtain rfl : t = t' := Host.Outcome.next.inj (h.symm.trans ht')
    exact hbefore j v (Nat.lt_of_succ_lt_succ hj) hrun'

/-- The loop ends within the polls that are left, by induction on their number. -/
theorem exists_leavesLoop (n : Nat) (hq : s.Quiet) (hinv : s.CaptureInv) (hp : s.phase = .poll)
    (hn : s.pollsLeft ≤ n) : ∃ k t, k ≤ n ∧ LeavesLoop k s t := by
  induction n generalizing s with
  | zero =>
    have hstall : s.capStall ≤ 100 := (hinv.polling hp).2
    unfold State.pollsLeft at hn
    omega
  | succ n ih =>
    obtain ⟨t, hstep⟩ := step_poll_next hq hinv hp
    have hm := phaseMove_of_step hq (by simp [hp]) hstep
    have hqt := phaseMove_quiet hq hm
    obtain ⟨hresp, hrel | ⟨hpt, hless⟩⟩ := exec_poll_progress hinv hp ((step_quiet hq hp nofun).symm.trans hstep)
    · exact ⟨1, t, by omega, leavesLoop_one hstep hp hrel hqt hresp⟩
    · obtain ⟨k, u, hk, hl⟩ := ih hqt (captureInv_phaseMove hinv hm) hpt (by omega)
      exact ⟨k + 1, u, by omega, leavesLoop_cons hstep hp hresp hl⟩

theorem pollsLeft_le (s : State) : s.pollsLeft ≤ 8585 := by
  unfold State.pollsLeft
  omega

end loop

/-- Settles O53: at most 8585 polls are left, and the loop ends within them. -/
theorem pollLoopEndsWithin8585Polls : Obligations.PollLoopEndsWithin8585Polls := by
  unfold Obligations.PollLoopEndsWithin8585Polls
  intro s hq hinv hp
  obtain ⟨k, t, hk, hrun, ht, -, -, hbefore⟩ := exists_leavesLoop 8585 hq hinv hp (pollsLeft_le s)
  exact ⟨k, t, hk, hrun, ht, hbefore⟩

/-! ### The answer (R90 to R101, R113) -/

/-- Within `n` steps from `s` the block is in `IDLE` with one response added, and with a valid Reading if it is `OK`. -/
def AnsweredWithin (n : Nat) (s : State) : Prop :=
  ∃ (k : Nat) (t : State) (r : BitVec 72), k ≤ n ∧ Runs k s t ∧ t.phase = .idle ∧
    t.responses = s.responses ++ [r] ∧ (statusOf r = 0x00#8 → t.rdValid = true)

section answered

variable {s t : State} {n : Nat}

/-- Steps without a response before the answer. -/
theorem answeredWithin_runs {k : Nat} (h : Runs k s t) (hr : t.responses = s.responses) (ha : AnsweredWithin n t) :
    AnsweredWithin (k + n) s := by
  obtain ⟨j, u, r, hj, hrun, hidle, hresp, hok⟩ := ha
  exact ⟨k + j, u, r, by omega, runs_append h hrun, hidle, by rw [hresp, hr], hok⟩

theorem answeredWithin_step (h : step s = .next t) (hr : t.responses = s.responses) (ha : AnsweredWithin n t) :
    AnsweredWithin (n + 1) s :=
  Nat.add_comm 1 n ▸ answeredWithin_runs (runs_cons h (runs_zero t)) hr ha

/-- An error ends the command. -/
theorem answeredWithin_raise {e : SensorError} (h : step s = .next (s.raise e)) : AnsweredWithin (n + 1) s :=
  ⟨1, s.raise e, e.word, by omega, runs_cons h (runs_zero _), rfl, rfl, fun hok => absurd hok (statusOf_word_ne e)⟩

theorem answeredWithin_answer (hq : s.Quiet) (hp : s.phase = .answer) (hv : s.rdValid = true) : AnsweredWithin 1 s :=
  ⟨1, _, _, le_rfl, runs_cons (step_quiet hq hp nofun) (runs_zero _), rfl, rfl, fun _ => hv⟩

theorem answeredWithin_commit (hq : s.Quiet) (hp : s.phase = .commit) : AnsweredWithin 2 s :=
  answeredWithin_step (step_quiet hq hp nofun) rfl (answeredWithin_answer hq rfl rfl)

theorem answeredWithin_validate (hq : s.Quiet) (hp : s.phase = .validate) : AnsweredWithin 3 s := by
  have hstep := step_quiet hq hp nofun
  obtain ⟨-, he⟩ | ⟨-, he⟩ := exec_validate_cases s
  · exact answeredWithin_step (hstep.trans he) rfl (answeredWithin_commit hq rfl)
  · exact answeredWithin_raise (hstep.trans he)

theorem answeredWithin_decode (hq : s.Quiet) (hp : s.phase = .decode) : AnsweredWithin 4 s :=
  answeredWithin_step (step_quiet hq hp nofun) rfl (answeredWithin_validate hq rfl)

theorem answeredWithin_finish (hq : s.Quiet) (hp : s.phase = .finish) : AnsweredWithin 5 s := by
  have hstep := step_quiet hq hp nofun
  obtain ⟨-, he⟩ | ⟨-, -, he⟩ | ⟨-, -, he⟩ := exec_finish_cases s
  · exact answeredWithin_raise (hstep.trans he)
  · exact answeredWithin_raise (hstep.trans he)
  · exact answeredWithin_step (hstep.trans he) rfl (answeredWithin_decode hq rfl)

theorem answeredWithin_release (hq : s.Quiet) (hp : s.phase = .release) : AnsweredWithin 6 s :=
  answeredWithin_step (step_quiet hq hp nofun) rfl (answeredWithin_finish hq rfl)

theorem AnsweredWithin.mono {m : Nat} (h : AnsweredWithin m s) (hmn : m ≤ n) : AnsweredWithin n s := by
  obtain ⟨k, t, r, hk, h⟩ := h
  exact ⟨k, t, r, hk.trans hmn, h⟩

theorem answeredWithin_poll (hq : s.Quiet) (hinv : s.CaptureInv) (hp : s.phase = .poll) : AnsweredWithin 8591 s := by
  obtain ⟨k, t, hk, hrun, ht, hqt, hresp, -⟩ := exists_leavesLoop 8585 hq hinv hp (pollsLeft_le s)
  exact (answeredWithin_runs hrun hresp (answeredWithin_release hqt ht)).mono (by omega)

end answered

/-- Settles O54: `ARM` sets up the capture invariant, the loop ends, and each phase after it leads on or answers. -/
theorem armedCaptureIsAlwaysAnswered : Obligations.ArmedCaptureIsAlwaysAnswered := by
  unfold Obligations.ArmedCaptureIsAlwaysAnswered
  intro s hq hp
  have hinv : (((s.setInput .up).readTime.armCapture s.drawTime).goto .poll).CaptureInv :=
    captureInv_of_poll rfl (Nat.zero_le _) (Nat.zero_le _) rfl rfl
  exact answeredWithin_step (step_quiet hq hp nofun) rfl (answeredWithin_poll hq hinv rfl)

end Sys2Proof.Machine
end

section
/-! PROOFS. The initialization signal (R82 to R86, R141, R144): how far the count has gone in each phase of it. -/

namespace Sys2Proof.Machine

/-- Along a run that has made the `TIME_NOW` of `INIT_HIGH` at the count `T0`: each hold began at a count no earlier
than the signal's part before it requires, and every phase after the holds comes 68000 after `T0`. -/
def SignalSince (T0 : Nat) (s : State) : Prop :=
  s.portReq = none ∧ match s.phase with
    | .holdHigh => ∃ T, T0 ≤ T ∧ T ≤ s.timeCount ∧ s.holdStart = BitVec.ofNat 32 T
    | .initLow => T0 + 50000 ≤ s.timeCount
    | .holdLow => ∃ T, T0 + 50000 ≤ T ∧ T ≤ s.timeCount ∧ s.holdStart = BitVec.ofNat 32 T
    | _ => T0 + 68000 ≤ s.timeCount

section signal

variable {T0 : Nat} {s t : State}

/-- A hold that has seen `bound` microseconds go by since the count `T` ends at a count at least `bound` later,
whatever the wraps. -/
theorem le_drawCount_of_elapsed {T bound : Nat} (hT : T ≤ s.timeCount) (hs : s.holdStart = BitVec.ofNat 32 T)
    (he : bound ≤ (s.drawElapsed s.holdStart).toNat) : T + bound ≤ s.drawCount := by
  have hle : T ≤ s.drawCount := hT.trans s.timeCount_le_drawCount
  have helapsed : (s.drawElapsed s.holdStart).toNat ≤ s.drawCount - T := by
    rw [hs]
    exact elapsedTicks_le T s.drawCount hle
  omega

theorem signalSince_phaseMove (h : SignalSince T0 s) (hm : PhaseMove s t) : SignalSince T0 t := by
  obtain ⟨hreq, h⟩ := h
  have hle := s.timeCount_le_drawCount
  cases hm with
  | waits hp | checkWithout hp | release hp | finishTooMany hp | finishWrongCount hp | finishPasses hp | decode hp
  | validatePasses hp | validateFails hp | answer hp =>
    refine ⟨hreq, ?_⟩
    simpa [hp] using h
  | checkHits hp | checkMisses hp | arm hp | pollOverflows hp | pollRecords hp | pollWaits hp | pollStalls hp
  | commit hp =>
    rw [hp] at h
    exact ⟨hreq, h.trans hle⟩
  | initHigh hp =>
    rw [hp] at h
    exact ⟨hreq, s.drawCount, (Nat.le_of_add_right_le h).trans hle, le_rfl, rfl⟩
  | holdHighRepeats hp | holdLowRepeats hp =>
    rw [hp] at h
    obtain ⟨T, hT, hTs, hs⟩ := h
    exact ⟨hreq, T, hT, hTs.trans hle, hs⟩
  | holdHighEnds hp he =>
    rw [hp] at h
    obtain ⟨T, hT, hTs, hs⟩ := h
    have hcount := le_drawCount_of_elapsed hTs hs he
    refine ⟨hreq, ?_⟩
    simp only [State.goto_phase, State.goto_timeCount, State.readElapsed_timeCount]
    omega
  | initLow hp =>
    rw [hp] at h
    exact ⟨hreq, s.drawCount, h.trans hle, le_rfl, rfl⟩
  | holdLowEnds hp he =>
    rw [hp] at h
    obtain ⟨T, hT, hTs, hs⟩ := h
    have hcount := le_drawCount_of_elapsed hTs hs he
    refine ⟨hreq, ?_⟩
    simp only [State.goto_phase, State.goto_timeCount, State.readElapsed_timeCount]
    omega

theorem step_signalSince (h : SignalSince T0 s) (hstep : step s = .next t) : SignalSince T0 t := by
  obtain ⟨hp, c, hostIn, hostProgram, rfl⟩ | hm := step_inversion h.1 hstep
  · obtain ⟨hreq, h⟩ := h
    rw [hp] at h
    exact ⟨hreq, h⟩
  · exact signalSince_phaseMove h hm

end signal

/-- Settles O55, by the induction along the run from the state after `INIT_HIGH`, whose count is `T0`. -/
theorem initializationSignalLasts68000Microseconds : Obligations.InitializationSignalLasts68000Microseconds := by
  unfold Obligations.InitializationSignalLasts68000Microseconds
  intro s u t k hreq hp hstep hrun hpoll
  have hstart : SignalSince u.timeCount u := by
    obtain ⟨hidle, -⟩ | hm := step_inversion hreq hstep
    · simp [hp] at hidle
    · cases hm with
      | initHigh => exact ⟨hreq, _, le_rfl, le_rfl, rfl⟩
      | _ => simp_all
  obtain ⟨-, h⟩ := runs_induction (fun _ _ => step_signalSince) hstart hrun
  rwa [hpoll] at h

end Sys2Proof.Machine
end

section
/-! PROOFS. No rule reads a register before writing it (R129, R22): two states that agree on what the rules can still
read take the same step, and so the same run. -/

namespace Sys2Proof.Machine

/-! ### A poll, by its cases (R87, R88) -/

section poll

variable {s : State}

theorem exec_poll_overflows (hl : s.drawLevel ≠ s.capLevel) (hc : s.capCount = 84) :
    exec .poll s = .next (s.readLine.readTime.setTooMany.goto .release) := by
  rw [exec_poll_next hc.le]
  simp [State.pollWith, hl, hc]

theorem exec_poll_records (hl : s.drawLevel ≠ s.capLevel) (hc : s.capCount < 84) :
    exec .poll s = .next ((s.readLine.readTime.recordTransition s.drawTime).goto .poll) := by
  rw [exec_poll_next hc.le]
  simp [State.pollWith, hl, hc.ne]

/-- An unchanged poll counts, whatever the number of transitions. -/
theorem exec_poll_unchanged (hl : s.drawLevel = s.capLevel) :
    exec .poll s = .next (s.readLine.readTime.countStall.goto (if 100 < s.capStall + 1 then .release else .poll)) := by
  simp [exec, execPoll, State.pollWith, hl]

end poll

/-! ### What two states that agree have in common while a command runs -/

/-- The agreement that does not depend on the phase: all that the host and the environment see and offer, the command
and a valid Reading. -/
structure AgreeBase (a b : State) : Prop where
  rdValid : a.rdValid = b.rdValid
  trace : a.trace = b.trace
  responses : a.responses = b.responses
  hostIn : a.hostIn = b.hostIn
  hostProgram : a.hostProgram = b.hostProgram
  lineTampered : a.lineTampered = b.lineTampered
  noPort : a.portReq = none ∧ b.portReq = none
  lineScript : a.lineScript = b.lineScript
  lineReads : a.lineReads = b.lineReads
  timeScript : a.timeScript = b.timeScript
  timeReads : a.timeReads = b.timeReads
  timeCount : a.timeCount = b.timeCount
  cmd : a.cmd = b.cmd
  reading : a.rdValid = true → a.rdHInt = b.rdHInt ∧ a.rdHDec = b.rdHDec ∧ a.rdTInt = b.rdTInt ∧
    a.rdTDec = b.rdTDec ∧ a.rdMeasuredAt = b.rdMeasuredAt

section base

variable {a b : State}

theorem AgreeLive.base (h : AgreeLive a b) (hp : a.phase ≠ .idle) : AgreeBase a b :=
  { h with
    cmd := h.cmd hp
    reading := fun hv => h.reading (.inl hv) }

/-! The draws are the same, and each shared operation keeps the agreement. -/

theorem AgreeBase.drawCount (h : AgreeBase a b) : a.drawCount = b.drawCount := by
  simp [State.drawCount, h.timeCount, h.timeScript, h.timeReads]

theorem AgreeBase.drawTime (h : AgreeBase a b) : a.drawTime = b.drawTime := by
  simp [State.drawTime, h.drawCount]

theorem AgreeBase.drawElapsed (h : AgreeBase a b) {w w' : Word} (hw : w = w') :
    a.drawElapsed w = b.drawElapsed w' := by
  simp [State.drawElapsed, h.drawTime, hw]

theorem AgreeBase.drawLevel (h : AgreeBase a b) : a.drawLevel = b.drawLevel := by
  simp [State.drawLevel, h.lineScript, h.lineReads]

theorem AgreeBase.goto (h : AgreeBase a b) (p : Phase) : AgreeBase (a.goto p) (b.goto p) := { h with }

theorem AgreeBase.setOutput (h : AgreeBase a b) (p : Pull) : AgreeBase (a.setOutput p) (b.setOutput p) :=
  { h with trace := by simp [h.trace] }

theorem AgreeBase.setInput (h : AgreeBase a b) (p : Pull) : AgreeBase (a.setInput p) (b.setInput p) :=
  { h with trace := by simp [h.trace] }

theorem AgreeBase.writeLine (h : AgreeBase a b) (l : Level) : AgreeBase (a.writeLine l) (b.writeLine l) :=
  { h with trace := by simp [h.trace] }

theorem AgreeBase.readLine (h : AgreeBase a b) : AgreeBase a.readLine b.readLine :=
  { h with
    trace := by simp [h.trace, h.drawLevel]
    lineScript := by simp [h.lineScript]
    lineReads := by simp [h.lineReads] }

theorem AgreeBase.readTime (h : AgreeBase a b) : AgreeBase a.readTime b.readTime :=
  { h with
    trace := by simp [h.trace, h.drawTime]
    timeScript := by simp [h.timeScript]
    timeReads := by simp [h.timeReads]
    timeCount := h.drawCount }

theorem AgreeBase.readElapsed (h : AgreeBase a b) {w w' : Word} (hw : w = w') :
    AgreeBase (a.readElapsed w) (b.readElapsed w') :=
  { h with
    trace := by rw [State.readElapsed_trace, State.readElapsed_trace, h.trace, h.drawElapsed hw, hw]
    timeScript := by simp [h.timeScript]
    timeReads := by simp [h.timeReads]
    timeCount := h.drawCount }

theorem AgreeBase.respond (h : AgreeBase a b) {r r' : BitVec 72} (hr : r = r') :
    AgreeBase (a.respond r) (b.respond r') :=
  { h with responses := by simp [h.responses, hr] }

theorem AgreeBase.commitReading (h : AgreeBase a b) {t t' : Word} (ht : t = t') (hpl : a.pl = b.pl) :
    AgreeBase (a.commitReading t) (b.commitReading t') :=
  { h with
    rdValid := rfl
    reading := fun _ => by simp [ht, hpl] }

/-- What the two states have in common besides in the phase `p`: the registers that are read in it or after it before
they are written. -/
def AgreeIn (p : Phase) (a b : State) : Prop :=
  match p with
  | .holdHigh | .holdLow => a.holdStart = b.holdStart
  | .poll =>
    (a.capLevel = b.capLevel ∧ a.capStall = b.capStall ∧ a.capLastTs = b.capLastTs) ∧
      (a.capCount = b.capCount ∧ a.capTooMany = b.capTooMany) ∧ ∀ i, i < a.capCount → a.capBuf[i]? = b.capBuf[i]?
  | .release | .finish =>
    (a.capCount = b.capCount ∧ a.capTooMany = b.capTooMany) ∧ ∀ i, i < a.capCount → a.capBuf[i]? = b.capBuf[i]?
  | .decode => a.capBuf = b.capBuf
  | .validate | .commit => a.pl = b.pl
  | .answer => a.rdValid = true
  | .idle | .check | .initHigh | .initLow | .arm => True

theorem AgreeBase.live (h : AgreeBase a b) {p : Phase} (ha : a.phase = p) (hb : b.phase = p) (hin : AgreeIn p a b) :
    AgreeLive a b := by
  have hreading := h.reading
  refine { h with
    phase := ha.trans hb.symm
    cmd := fun _ => h.cmd
    reading := ?_
    hold := ?_
    loop := ?_
    counted := ?_
    recorded := ?_
    train := ?_
    payload := ?_ }
  all_goals cases p <;> simp_all [AgreeIn]

end base

/-! ### Two states that agree take the same step -/

/-- The two outcomes go on to states that agree, or they stop for the same reason. -/
def AgreeOutcome : Outcome → Outcome → Prop
  | .next a, .next b => AgreeLive a b
  | .fault f, .fault f' => f = f'
  | .refused r, .refused r' => r = r'
  | .next _, .fault _ | .next _, .refused _ | .fault _, .next _ | .fault _, .refused _ | .refused _, .next _
  | .refused _, .fault _ => False

section agree

variable {a b : State}

theorem agree_check (h : AgreeLive a b) (ha : a.phase = .check) : AgreeOutcome (exec .check a) (exec .check b) := by
  have hbase := h.base (by simp [ha])
  cases hv : a.rdValid with
  | false =>
    rw [exec_check_invalid hv, exec_check_invalid (h.rdValid ▸ hv)]
    exact (hbase.goto .initHigh).live rfl rfl trivial
  | true =>
    obtain ⟨-, -, -, -, hat⟩ := h.reading (.inl hv)
    rw [exec_check_valid hv, exec_check_valid (h.rdValid ▸ hv), hbase.drawElapsed hat]
    split
    · exact ((hbase.readElapsed hat).goto .answer).live rfl rfl hv
    · exact ((hbase.readElapsed hat).goto .initHigh).live rfl rfl trivial

theorem agree_initHigh (h : AgreeLive a b) (ha : a.phase = .initHigh) :
    AgreeOutcome (exec .initHigh a) (exec .initHigh b) := by
  have hbase := ((h.base (by simp [ha])).setOutput .down).writeLine .high
  exact AgreeBase.live (p := .holdHigh) { hbase.readTime with } rfl rfl hbase.drawTime

theorem agree_initLow (h : AgreeLive a b) (ha : a.phase = .initLow) :
    AgreeOutcome (exec .initLow a) (exec .initLow b) := by
  have hbase := (h.base (by simp [ha])).writeLine .low
  exact AgreeBase.live (p := .holdLow) { hbase.readTime with } rfl rfl hbase.drawTime

theorem agree_holdHigh (h : AgreeLive a b) (ha : a.phase = .holdHigh) :
    AgreeOutcome (exec .holdHigh a) (exec .holdHigh b) := by
  have hbase := h.base (by simp [ha])
  have hhold := h.hold (.inl ha)
  simp only [exec, execHoldHigh, hbase.drawElapsed hhold]
  split
  · exact ((hbase.readElapsed hhold).goto .initLow).live rfl rfl trivial
  · exact ((hbase.readElapsed hhold).goto .holdHigh).live rfl rfl hhold

theorem agree_holdLow (h : AgreeLive a b) (ha : a.phase = .holdLow) :
    AgreeOutcome (exec .holdLow a) (exec .holdLow b) := by
  have hbase := h.base (by simp [ha])
  have hhold := h.hold (.inr ha)
  simp only [exec, execHoldLow, hbase.drawElapsed hhold]
  split
  · exact ((hbase.readElapsed hhold).goto .arm).live rfl rfl trivial
  · exact ((hbase.readElapsed hhold).goto .holdLow).live rfl rfl hhold

theorem agree_arm (h : AgreeLive a b) (ha : a.phase = .arm) : AgreeOutcome (exec .arm a) (exec .arm b) := by
  have hbase := (h.base (by simp [ha])).setInput .up
  exact AgreeBase.live (p := .poll) { hbase.readTime with } rfl rfl ⟨⟨rfl, rfl, hbase.drawTime⟩, ⟨rfl, rfl⟩, nofun⟩

/-- The same duration written at the same index: the entries up to it agree. -/
theorem getElem?_setIfInBounds_agree {u v : Vector Word Config.nTrans} {n : Nat} {x y : Word} (hxy : x = y)
    (h : ∀ i, i < n → u[i]? = v[i]?) (i : Nat) (hi : i < n + 1) :
    (u.setIfInBounds n x)[i]? = (v.setIfInBounds n y)[i]? := by
  subst hxy
  obtain rfl | hlt := Nat.eq_or_lt_of_le (Nat.le_of_lt_succ hi)
  · rw [Vector.getElem?_setIfInBounds_self, Vector.getElem?_setIfInBounds_self]
  · rw [Vector.getElem?_setIfInBounds_ne hlt.ne', Vector.getElem?_setIfInBounds_ne hlt.ne', h i hlt]

theorem agree_poll (h : AgreeLive a b) (ha : a.phase = .poll) : AgreeOutcome (exec .poll a) (exec .poll b) := by
  have hbase := h.base (by simp [ha])
  obtain ⟨hlevel, hstall, hlast⟩ := h.loop ha
  obtain ⟨hcount, hmany⟩ := h.counted (.inl ha)
  have hrec := h.recorded (.inl ha)
  have hread := hbase.readLine.readTime
  by_cases hl : a.drawLevel = a.capLevel
  · have hl' : b.drawLevel = b.capLevel := by rw [← hbase.drawLevel, hl, hlevel]
    rw [exec_poll_unchanged hl, exec_poll_unchanged hl', ← hstall]
    split
    · exact AgreeBase.live (p := .release) { hread with } rfl rfl ⟨⟨hcount, hmany⟩, hrec⟩
    · exact AgreeBase.live (p := .poll) { hread with } rfl rfl
        ⟨⟨hlevel, congrArg (· + 1) hstall, hlast⟩, ⟨hcount, hmany⟩, hrec⟩
  · have hl' : b.drawLevel ≠ b.capLevel := by rwa [← hbase.drawLevel, ← hlevel]
    obtain hc | hc | hc := Nat.lt_trichotomy a.capCount 84
    · rw [exec_poll_records hl hc, exec_poll_records hl' (hcount ▸ hc)]
      have hticks : elapsedTicks a.drawTime a.capLastTs = elapsedTicks b.drawTime b.capLastTs := by
        rw [hbase.drawTime, hlast]
      refine AgreeBase.live (p := .poll) { hread with } rfl rfl
        ⟨⟨congrArg Level.toggle hlevel, rfl, hbase.drawTime⟩, ⟨congrArg (· + 1) hcount, hmany⟩, ?_⟩
      simpa [hcount] using getElem?_setIfInBounds_agree hticks hrec
    · rw [exec_poll_overflows hl hc, exec_poll_overflows hl' (hcount ▸ hc)]
      exact AgreeBase.live (p := .release) { hread with } rfl rfl ⟨⟨hcount, rfl⟩, hrec⟩
    · rw [exec_poll_fault hc hl, exec_poll_fault (hcount ▸ hc) hl']
      rfl

theorem agree_release (h : AgreeLive a b) (ha : a.phase = .release) :
    AgreeOutcome (exec .release a) (exec .release b) :=
  ((((h.base (by simp [ha])).setOutput .down).writeLine .low).goto .finish).live rfl rfl
    ⟨h.counted (.inr (.inl ha)), h.recorded (.inr (.inl ha))⟩

/-- All 84 entries agree: the captures are the same. -/
theorem capBuf_eq_of_recorded (hc : a.capCount = 84) (hrec : ∀ i, i < a.capCount → a.capBuf[i]? = b.capBuf[i]?) :
    a.capBuf = b.capBuf := by
  refine Vector.ext fun i hi => ?_
  have hentry := hrec i (hc ▸ hi)
  rwa [Vector.getElem?_eq_getElem hi, Vector.getElem?_eq_getElem hi, Option.some.injEq] at hentry

theorem agree_finish (h : AgreeLive a b) (ha : a.phase = .finish) :
    AgreeOutcome (exec .finish a) (exec .finish b) := by
  have hbase := h.base (by simp [ha])
  obtain ⟨hcount, hmany⟩ := h.counted (.inr (.inr ha))
  simp only [exec, execFinish, ← hmany, ← hcount]
  split
  · exact (hbase.respond rfl).live (p := .idle) rfl rfl trivial
  · split
    · exact (hbase.respond rfl).live (p := .idle) rfl rfl trivial
    · next hc =>
      exact (hbase.goto .decode).live rfl rfl
        (capBuf_eq_of_recorded (not_not.mp hc) (h.recorded (.inr (.inr ha))))

theorem agree_decode (h : AgreeLive a b) (ha : a.phase = .decode) :
    AgreeOutcome (exec .decode a) (exec .decode b) :=
  AgreeBase.live (p := .validate) { h.base (by simp [ha]) with } rfl rfl (congrArg payloadOf (h.train ha))

theorem agree_validate (h : AgreeLive a b) (ha : a.phase = .validate) :
    AgreeOutcome (exec .validate a) (exec .validate b) := by
  have hbase := h.base (by simp [ha])
  have hpl := h.payload (.inl ha)
  simp only [exec, execValidate, ← hpl]
  split
  · exact (hbase.goto .commit).live rfl rfl hpl
  · exact (hbase.respond rfl).live (p := .idle) rfl rfl trivial

theorem agree_commit (h : AgreeLive a b) (ha : a.phase = .commit) :
    AgreeOutcome (exec .commit a) (exec .commit b) := by
  have hbase := h.base (by simp [ha])
  exact ((hbase.readTime.commitReading hbase.drawTime (h.payload (.inr ha))).goto .answer).live rfl rfl rfl

theorem answerWord_agree (h : AgreeLive a b) (ha : a.phase = .answer) : a.answerWord = b.answerWord := by
  obtain ⟨hhInt, hhDec, htInt, htDec, hat⟩ := h.reading (.inr ha)
  simp [State.answerWord, h.cmd (by simp [ha]), hhInt, hhDec, htInt, htDec, hat]

theorem agree_answer (h : AgreeLive a b) (ha : a.phase = .answer) :
    AgreeOutcome (exec .answer a) (exec .answer b) :=
  ((h.base (by simp [ha])).respond (answerWord_agree h ha)).live (p := .idle) rfl rfl trivial

/-- The operation of the phase, phase by phase; in `IDLE` with nothing offered both wait. -/
theorem agree_phase (h : AgreeLive a b) (hoa : a.hostOffer = none) (hob : b.hostOffer = none) :
    AgreeOutcome (exec a.phase.instr a) (exec a.phase.instr b) := by
  cases hp : a.phase
  case idle =>
    rw [Phase.instr, exec_idle_waits hoa, exec_idle_waits hob]
    exact h
  case check => exact agree_check h hp
  case initHigh => exact agree_initHigh h hp
  case holdHigh => exact agree_holdHigh h hp
  case initLow => exact agree_initLow h hp
  case holdLow => exact agree_holdLow h hp
  case arm => exact agree_arm h hp
  case poll => exact agree_poll h hp
  case release => exact agree_release h hp
  case finish => exact agree_finish h hp
  case decode => exact agree_decode h hp
  case validate => exact agree_validate h hp
  case commit => exact agree_commit h hp
  case answer => exact agree_answer h hp

/-- The host offers both the same, and what is left of its offer is the same. -/
theorem hostOffer_agree (h : AgreeLive a b) :
    (a.hostOffer = none ∧ b.hostOffer = none) ∨
      ∃ w hostIn hostProgram, a.hostOffer = some (w, { a with hostIn, hostProgram }) ∧
        b.hostOffer = some (w, { b with hostIn, hostProgram }) := by
  cases hin : a.hostIn with
  | some w =>
    refine .inr ⟨w, none, a.hostProgram, hostOffer_of_hostIn hin, ?_⟩
    rw [hostOffer_of_hostIn (h.hostIn ▸ hin), h.hostProgram]
    rfl
  | none =>
    have hin' : b.hostIn = none := h.hostIn ▸ hin
    by_cases hp : a.phase = .idle
    · cases hprog : a.hostProgram with
      | nil =>
        exact .inl ⟨hostOffer_eq_none_of_program hin hprog,
          hostOffer_eq_none_of_program hin' (h.hostProgram ▸ hprog)⟩
      | cons w ws =>
        refine .inr ⟨w, none, ws, ?_, ?_⟩
        · simp [State.hostOffer, hin, hp, hprog, State.takeProgram]
        · simp [State.hostOffer, hin', h.phase ▸ hp, h.hostProgram ▸ hprog, State.takeProgram]
    · exact .inl ⟨hostOffer_eq_none hin hp, hostOffer_eq_none hin' (h.phase ▸ hp)⟩

/-- A command offered to both is accepted by both or refused by both. -/
theorem agree_command (h : AgreeLive a b) (c : HostCmd) (hostIn : Option Byte) (hostProgram : List Byte) :
    AgreeOutcome (offerCommand c { a with hostIn, hostProgram }) (offerCommand c { b with hostIn, hostProgram }) := by
  simp only [offerCommand, ← h.phase]
  split
  · exact AgreeBase.live (p := .check)
      { h with hostIn := rfl, hostProgram := rfl, cmd := rfl, reading := fun hv => h.reading (.inl hv) } rfl rfl trivial
  · rfl

theorem agree_step (h : AgreeLive a b) : AgreeOutcome (step a) (step b) := by
  obtain ⟨hreq, hreq'⟩ := h.noPort
  cases ht : a.lineTampered with
  | true =>
    rw [step_tampered ht, step_tampered (h.lineTampered ▸ ht)]
    rfl
  | false =>
    have ht' : b.lineTampered = false := h.lineTampered ▸ ht
    obtain ⟨hoa, hob⟩ | ⟨w, hostIn, hostProgram, hoa, hob⟩ := hostOffer_agree h
    · rw [step_phase ht hreq hoa, step_phase ht' hreq' hob, ← h.phase]
      exact agree_phase h hoa hob
    · obtain hw | ⟨c, hw⟩ := Option.eq_none_or_eq_some (hostCommandOf w)
      · rw [step_reserved ht hreq hoa hw, step_reserved ht' hreq' hob hw]
        rfl
      · obtain rfl := hostCommandOf_eq_some hw
        rw [step_command ht hreq hoa, step_command ht' hreq' hob]
        exact agree_command h c hostIn hostProgram

theorem exists_next_of_agreeOutcome {o : Outcome} (h : AgreeOutcome (.next a) o) :
    ∃ b, o = .next b ∧ AgreeLive a b := by
  cases o with
  | next b => exact ⟨b, rfl, h⟩
  | fault => exact h.elim
  | refused => exact h.elim

theorem eq_of_agreeOutcome_refused {o : Outcome} {r : Refusal} (h : AgreeOutcome (.refused r) o) : o = .refused r := by
  cases o with
  | next => exact h.elim
  | fault => exact h.elim
  | refused => exact congrArg Host.Outcome.refused (Eq.symm h)

theorem eq_of_agreeOutcome_fault {o : Outcome} {f : Fault} (h : AgreeOutcome (.fault f) o) : o = .fault f := by
  cases o with
  | next => exact h.elim
  | fault => exact congrArg Host.Outcome.fault (Eq.symm h)
  | refused => exact h.elim

/-- A run of the one is a run of the other, to a state that agrees. -/
theorem agree_runs {n : Nat} {a' : State} (h : AgreeLive a b) (hrun : Runs n a a') :
    ∃ b', Runs n b b' ∧ AgreeLive a' b' := by
  induction n generalizing a b with
  | zero =>
    obtain rfl := runs_zero_iff.mp hrun
    exact ⟨b, runs_zero b, h⟩
  | succ n ih =>
    obtain ⟨v, hv, hrun'⟩ := runs_succ_iff.mp hrun
    obtain ⟨w, hw, hvw⟩ := exists_next_of_agreeOutcome (hv ▸ agree_step h)
    obtain ⟨b', hb, hagree⟩ := ih hvw hrun'
    exact ⟨b', runs_cons hw hb, hagree⟩

/-- In `IDLE` with no Reading, no register whose reset value is unspecified is read before it is written. -/
theorem agreeLive_withUnspecified {s : State} (g : State) (hp : s.phase = .idle) (hv : s.rdValid = false)
    (hreq : s.portReq = none) : AgreeLive s (s.withUnspecified g) := by
  constructor <;> simp [State.withUnspecified, hp, hv, hreq]

end agree

/-- Settles O59: `agree_step`, read by the outcome of the first state. -/
theorem unspecifiedRegistersAreNeverRead : Obligations.UnspecifiedRegistersAreNeverRead := by
  unfold Obligations.UnspecifiedRegistersAreNeverRead
  intro a b h
  have hstep := agree_step h
  refine ⟨fun a' ha => ?_, fun r ha => ?_, fun f ha => ?_⟩ <;> rw [ha] at hstep
  · exact exists_next_of_agreeOutcome hstep
  · exact eq_of_agreeOutcome_refused hstep
  · exact eq_of_agreeOutcome_fault hstep

/-- Settles O60: the two start in agreement, and a run keeps it. -/
theorem resetGarbageIsNeverObserved : Obligations.ResetGarbageIsNeverObserved := by
  unfold Obligations.ResetGarbageIsNeverObserved
  intro s g t n hp hv hreq hrun
  obtain ⟨u, hu, hagree⟩ := agree_runs (agreeLive_withUnspecified g hp hv hreq) hrun
  exact ⟨u, hu, hagree.trace.symm, hagree.responses.symm, hagree.phase.symm⟩

end Sys2Proof.Machine
end

section
/-! PROOFS. The encodings (R57 to R62, R67), what a step fetches (R28, R52), and where it stops (R112, R117). -/

namespace Sys2Proof.Machine

/-! ### The operation words -/

/-- Settles O1: each word is the encoding of the operation the tables give. -/
theorem wordsDecodeAsTheTablesSay : Obligations.WordsDecodeAsTheTablesSay := by
  unfold Obligations.WordsDecodeAsTheTablesSay
  exact ⟨rfl, rfl, rfl, rfl, rfl, rfl, rfl, rfl, rfl, rfl, rfl, rfl⟩

/-- Settles O2, over the 256 words. -/
theorem reservedWordsAreRejectedByName : Obligations.ReservedWordsAreRejectedByName := by
  unfold Obligations.ReservedWordsAreRejectedByName
  decide

theorem decodeWord_encode (i : Instr) : decodeWord (encode i) = .ok i := by
  cases i with
  | gpioSetOutput p => exact decodeWord_port (.setOutput p)
  | gpioSetInput p => exact decodeWord_port (.setInput p)
  | gpioWrite l => exact decodeWord_port (.write l)
  | _ => rfl

/-- No bit of a word that decodes is dropped: over the 256 words. -/
theorem encode_decodeWord {w : Byte} {i : Instr} (h : decodeWord w = .ok i) : encode i = w := by
  have hall : ∀ w : Byte, ∀ i ∈ (decodeWord w).toOption, encode i = w := by decide
  exact hall w i (by simp [h, Except.toOption])

/-- Settles O3: the decoder reads the one word in front, and the table decoder the word of its 8 bits. -/
theorem decodeAndEncodeAgree : Obligations.DecodeAndEncodeAgree := by
  unfold Obligations.DecodeAndEncodeAgree
  refine ⟨fun i rest => ?_, fun w i => encode_decodeWord, fun i => ?_⟩
  · simp [decodeBytes, decodeWord_encode, Except.map]
  · have hword : BitVec.ofNat 8 ((encode i).toNat % 2 ^ 8) = encode i := by
      rw [Nat.mod_eq_of_lt (encode i).isLt, BitVec.ofNat_toNat, BitVec.setWidth_eq]
    rw [decodeTableWord, hword]
    simp [decodeBytes, decodeWord_encode, Except.map]

/-- Settles O4: the fields of `WrongPulseCount` are in range and so are not cut. -/
theorem errorResponsesCarryTheirFields : Obligations.ErrorResponsesCarryTheirFields := by
  unfold Obligations.ErrorResponsesCarryTheirFields
  refine ⟨rfl, fun n hn => ?_, rfl⟩
  rw [SensorError.word, append_toNat, append_toNat, append_toNat]
  simp [Config.nTrans]
  omega

/-! ### What a step fetches and runs -/

/-- Settles O5, by the definition of the step, its three tests decided. -/
theorem stepRunsTheDecodedOperation : Obligations.StepRunsTheDecodedOperation := by
  unfold Obligations.StepRunsTheDecodedOperation
  intro s i ht hd hw
  simp [step, ht, hd, hw]

/-- Settles O6, by what the host offers in each case. -/
theorem fetchOrder : Obligations.FetchOrder := by
  unfold Obligations.FetchOrder
  refine fun s => ⟨fun op hreq => ?_, fun w hreq hin => ?_, fun w ws hreq hin hp hprog => ?_,
    fun hreq hin hwait => ?_⟩
  · simp [fetch, hreq]
  · simp [fetch, hreq, hostOffer_of_hostIn hin]
  · have ho : s.hostOffer = some (w, s.takeProgram ws) := by simp [State.hostOffer, hin, hp, hprog]
    simp [fetch, hreq, ho]
  · have ho : s.hostOffer = none := hwait.elim (hostOffer_eq_none hin) (hostOffer_eq_none_of_program hin)
    simp [fetch, hreq, ho]

/-- Settles O7: outside `IDLE`, with nothing offered outright, the host offers nothing. -/
theorem eachPhaseRunsItsOperation : Obligations.EachPhaseRunsItsOperation := by
  unfold Obligations.EachPhaseRunsItsOperation
  exact fun s hq hne => step_quiet hq rfl hne

/-- `IDLE` accepts a command word from where it was offered. -/
theorem exec_idle_command {s rest : State} {c : HostCmd} (ho : s.hostOffer = some (c.word, rest)) :
    exec .idle s = offerCommand c rest := by
  simp [exec, execIdle, ho]

theorem exec_idle_reserved {s rest : State} {w : Byte} (ho : s.hostOffer = some (w, rest))
    (hw : hostCommandOf w = none) : exec .idle s = .refused (.reservedHostWord w) := by
  simp [exec, execIdle, ho, hw]

/-- Settles O8, by what the host offers: nothing, a command, or another word. -/
theorem idleStepIsTheIdleRule : Obligations.IdleStepIsTheIdleRule := by
  unfold Obligations.IdleStepIsTheIdleRule
  intro s ht hreq hp
  obtain ho | ⟨⟨w, rest⟩, ho⟩ := Option.eq_none_or_eq_some s.hostOffer
  · rw [step_phase ht hreq ho, hp, Phase.instr]
  · obtain hw | ⟨c, hw⟩ := Option.eq_none_or_eq_some (hostCommandOf w)
    · rw [step_reserved ht hreq ho hw, exec_idle_reserved ho hw]
    · obtain rfl := hostCommandOf_eq_some hw
      rw [step_command ht hreq ho, exec_idle_command ho]

/-! ### Where a step stops -/

/-- No operation of a phase is refused, with nothing offered by the host; `POLL` alone can fault. -/
theorem exec_phase_ne_refused {s : State} (ho : s.hostOffer = none) (r : Refusal) :
    exec s.phase.instr s ≠ .refused r := by
  cases hp : s.phase
  case idle => simp [Phase.instr, exec_idle_waits ho]
  case poll =>
    simp only [Phase.instr, exec, execPoll]
    split <;> nofun
  all_goals nofun

theorem exec_phase_ne_fault {s : State} (hc : s.capCount ≤ 84) (ho : s.hostOffer = none) (f : Fault) :
    exec s.phase.instr s ≠ .fault f := by
  cases hp : s.phase
  case idle => simp [Phase.instr, exec_idle_waits ho]
  case poll => simp [Phase.instr, exec_poll_next hc]
  all_goals nofun

theorem offerCommand_refused_iff {c : HostCmd} {s : State} :
    (∃ r, offerCommand c s = .refused r) ↔ s.phase ≠ .idle := by
  by_cases hp : s.phase = .idle <;> simp [offerCommand, hp]

theorem word_toNat_command (c : HostCmd) : ¬ (c.word.toNat = 0 ∨ 4 < c.word.toNat) := by
  cases c <;> decide

/-- Settles O9, by the two tests of the step and what the host offers. -/
theorem refusalsAreThoseOfTheRule : Obligations.RefusalsAreThoseOfTheRule := by
  unfold Obligations.RefusalsAreThoseOfTheRule
  intro s hreq
  cases ht : s.lineTampered with
  | true => simp [step_tampered ht]
  | false =>
    obtain ho | ⟨⟨w, rest⟩, ho⟩ := Option.eq_none_or_eq_some s.hostOffer
    · have hin : s.hostIn = none := by
        cases hin : s.hostIn with
        | none => rfl
        | some w => simp [hostOffer_of_hostIn hin] at ho
      simp [step_phase ht hreq ho, exec_phase_ne_refused ho, ho, hin]
    · obtain hw | ⟨c, hw⟩ := Option.eq_none_or_eq_some (hostCommandOf w)
      · have hlist := (hostCommandOf_eq_none_iff w).mp hw
        simp [step_reserved ht hreq ho hw, ho, hlist]
      · obtain rfl := hostCommandOf_eq_some hw
        have hlist := word_toNat_command c
        rw [step_command ht hreq ho, offerCommand_refused_iff]
        obtain ⟨hin, rfl⟩ | ⟨hin, hp, ws, -, rfl⟩ := hostOffer_cases ho
        · simp [ho, hin, hlist]
        · simp [ho, hin, hp, hlist]

/-- Settles O10: a port operation and a command never fault, and a phase only with `cap_count` above 84. -/
theorem noFaultUnderTheInvariant : Obligations.NoFaultUnderTheInvariant := by
  unfold Obligations.NoFaultUnderTheInvariant
  intro s hinv f
  cases ht : s.lineTampered with
  | true => simp [step_tampered ht]
  | false =>
    obtain hreq | ⟨op, hreq⟩ := Option.eq_none_or_eq_some s.portReq
    · obtain ho | ⟨⟨w, rest⟩, ho⟩ := Option.eq_none_or_eq_some s.hostOffer
      · rw [step_phase ht hreq ho]
        exact exec_phase_ne_fault hinv.count_le ho f
      · obtain hw | ⟨c, hw⟩ := Option.eq_none_or_eq_some (hostCommandOf w)
        · simp [step_reserved ht hreq ho hw]
        · obtain rfl := hostCommandOf_eq_some hw
          rw [step_command ht hreq ho, offerCommand]
          split <;> nofun
    · rw [step_port ht hreq]
      exact exec_port_ne_fault

/-! ### The state after reset (R129) -/

/-- Settles O38: the four fields, as `State.reset` has them. -/
theorem resetStateIsAsTheSpecGivesIt : Obligations.ResetStateIsAsTheSpecGivesIt := by
  unfold Obligations.ResetStateIsAsTheSpecGivesIt
  exact ⟨rfl, rfl, rfl, rfl⟩

end Sys2Proof.Machine
end

section
/-! PROOFS. The port operations issued alone (R71 to R76), and the host commands. -/

namespace Sys2Proof.Machine

/-! ### Port operations -/

/-- Settles O33: both operations are one update of the state. -/
theorem settingTheDirectionKeepsTheDrivenLevel : Obligations.SettingTheDirectionKeepsTheDrivenLevel := by
  unfold Obligations.SettingTheDirectionKeepsTheDrivenLevel
  exact fun s p => ⟨⟨s.setOutput p, rfl, by simp⟩, ⟨s.setInput p, rfl, by simp⟩⟩

/-- Settles O34, by the direction of the line. -/
theorem writingTheLineSetsTheDrivenLevel : Obligations.WritingTheLineSetsTheDrivenLevel := by
  unfold Obligations.WritingTheLineSetsTheDrivenLevel
  intro s l
  refine ⟨fun hdir => ⟨s.writeLine l, if_pos hdir, ?_⟩, fun hdir => if_neg (by simp [hdir])⟩
  simp [hdir]

theorem sinceOperand_check {s : State} (hp : s.phase = .check) : s.sinceOperand = s.rdMeasuredAt := by
  simp [State.sinceOperand, hp]

theorem sinceOperand_hold {s : State} (hp : s.phase = .holdHigh ∨ s.phase = .holdLow) :
    s.sinceOperand = s.holdStart := by
  obtain hp | hp := hp <;> simp [State.sinceOperand, hp]

theorem sinceOperand_cases (s : State) : s.sinceOperand = s.rdMeasuredAt ∨ s.sinceOperand = s.holdStart := by
  unfold State.sinceOperand
  split
  case h_1 => exact .inl rfl
  case h_2 | h_3 => exact .inr rfl
  all_goals exact (ite_eq_or_eq _ _ _).symm

/-- Settles O35, read by read; the register of a lone `TIME_ELAPSED` is its `sinceOperand`. -/
theorem readsDrawOnceAndChangeNoRegister : Obligations.ReadsDrawOnceAndChangeNoRegister := by
  unfold Obligations.ReadsDrawOnceAndChangeNoRegister
  refine fun s => ⟨fun hdir => if_neg (by simp [hdir]), fun i hi hdir => ?_⟩
  simp only [List.mem_cons, List.not_mem_nil, or_false] at hi
  obtain rfl | rfl | rfl := hi
  · exact ⟨s.readLine, .read s.drawLevel, if_pos (hdir rfl), by simp⟩
  · exact ⟨s.readTime, .now s.drawTime, rfl, by simp [State.drawTime]⟩
  · refine ⟨s.readElapsed s.sinceOperand, _, rfl, rfl, ?_⟩
    have hsince : ∃ since : Word,
        PortEvent.elapsed s.sinceOperand (s.drawElapsed s.sinceOperand) =
          .elapsed since (BitVec.ofNat 32 s.drawCount - since) ∧
        (s.phase = .check → since = s.rdMeasuredAt) ∧
        (s.phase = .holdHigh ∨ s.phase = .holdLow → since = s.holdStart) ∧
        (since = s.rdMeasuredAt ∨ since = s.holdStart) :=
      ⟨s.sinceOperand, rfl, sinceOperand_check, sinceOperand_hold, sinceOperand_cases s⟩
    simpa using hsince

/-- Settles O36, which is `elapsedTicks_ofNat`. -/
theorem elapsedIsCorrectUnderWraparound : Obligations.ElapsedIsCorrectUnderWraparound := by
  unfold Obligations.ElapsedIsCorrectUnderWraparound
  exact elapsedTicks_ofNat

/-- A port operation appends its own event. -/
theorem portEffect_trace (op : PortOp) (s : State) : ∃ ev : PortEvent, (portEffect op s).trace = s.trace ++ [ev] ∧
    ev.op = op := by
  cases op <;> exact ⟨_, rfl, rfl⟩

/-- Settles O37: the event's operation is the one performed, and its word that operation's encoding. -/
theorem eventsCarryTheirOperationsWord : Obligations.EventsCarryTheirOperationsWord := by
  unfold Obligations.EventsCarryTheirOperationsWord
  intro s t op h
  obtain rfl := exec_port_eq_next h
  obtain ⟨ev, htrace, hop⟩ := portEffect_trace op s
  exact ⟨ev, htrace, congrArg PortOp.word hop⟩

/-! ### Host commands (R98, R103 to R106, R116) -/

theorem acceptedAs_command (c : HostCmd) : AcceptedAs c.instr c.word := by
  intro s hp
  refine ⟨s.accept c, ?_, ?_⟩
  · rw [exec_command, offerCommand, if_pos hp]
  · simp

/-- Settles O11, command by command. -/
theorem commandsAreAcceptedInIdle : Obligations.CommandsAreAcceptedInIdle := by
  unfold Obligations.CommandsAreAcceptedInIdle
  exact ⟨acceptedAs_command .measure, acceptedAs_command .readTemperature, acceptedAs_command .readHumidity,
    acceptedAs_command .readReading⟩

/-- Settles O12: the four commands share `offerCommand`. -/
theorem commandsAreRefusedOutsideIdle : Obligations.CommandsAreRefusedOutsideIdle := by
  unfold Obligations.CommandsAreRefusedOutsideIdle
  intro s c hne
  rw [exec_command, offerCommand, if_neg hne]

/-- Settles O13, by what the host offers. -/
theorem idleWaitsAcceptsOrRefuses : Obligations.IdleWaitsAcceptsOrRefuses := by
  unfold Obligations.IdleWaitsAcceptsOrRefuses
  refine fun s hp => ⟨exec_idle_waits, fun c rest ho => ?_, fun w rest ho hw => ?_⟩
  · rw [exec_idle_command ho, offerCommand, if_pos ((hostOffer_rest_phase ho).trans hp)]
  · exact exec_idle_reserved ho ((hostCommandOf_eq_none_iff w).mpr hw)

end Sys2Proof.Machine
end

section
/-! PROOFS. The operation of each phase from every state, with its frame (R82 to R101). -/

namespace Sys2Proof.Machine

/-! ### The initialization signal (R82 to R86) and the release (R90) -/

/-- Settles O18. -/
theorem initHighDrivesHighThenStartsTheHold : Obligations.InitHighDrivesHighThenStartsTheHold := by
  unfold Obligations.InitHighDrivesHighThenStartsTheHold
  exact fun s => ⟨_, rfl, by simp [drivenHighCfg, State.drawTime]⟩

/-- Settles O20. -/
theorem initLowDrivesLowThenStartsTheHold : Obligations.InitLowDrivesLowThenStartsTheHold := by
  unfold Obligations.InitLowDrivesLowThenStartsTheHold
  exact fun s => ⟨_, rfl, by simp [State.drawTime]⟩

/-- A hold phase whose meaning compares the elapsed time with its bound. -/
theorem holdsFor_of_exec {i : Instr} {bound : Nat} {here after : Phase}
    (h : ∀ s, exec i s = .next ((s.readElapsed s.holdStart).goto
      (if bound ≤ (s.drawElapsed s.holdStart).toNat then after else here))) : HoldsFor i bound here after := by
  intro s
  refine ⟨_, s.drawElapsed s.holdStart, h s, rfl, by simp, fun he => if_pos he,
    fun he => if_neg (Nat.not_le.mpr he), ?_⟩
  simp

/-- Settles O19: both holds are of the one shape. -/
theorem holdsEndAtTheirBounds : Obligations.HoldsEndAtTheirBounds := by
  unfold Obligations.HoldsEndAtTheirBounds
  exact ⟨holdsFor_of_exec fun _ => rfl, holdsFor_of_exec fun _ => rfl⟩

/-- Settles O21. -/
theorem armReleasesTheLineAndSetsUpTheLoop : Obligations.ArmReleasesTheLineAndSetsUpTheLoop := by
  unfold Obligations.ArmReleasesTheLineAndSetsUpTheLoop
  exact fun s => ⟨_, rfl, by simp [State.drawTime]⟩

theorem releasedCfg_view : releasedCfg.view = 0b100#3 := rfl

/-- Settles O23: the configuration left is `releasedCfg`, whatever it was. -/
theorem releaseRestoresTheLine : Obligations.ReleaseRestoresTheLine := by
  unfold Obligations.ReleaseRestoresTheLine
  exact fun s => ⟨_, rfl, releasedCfg_view, by simp⟩

/-! ### The capture loop (R87, R88) -/

/-- Settles O22, by the three ways of a poll. -/
theorem pollIteration : Obligations.PollIteration := by
  unfold Obligations.PollIteration
  intro s hc
  by_cases hl : s.drawLevel = s.capLevel
  · refine ⟨_, s.drawLevel, s.drawTime, exec_poll_unchanged hl, ?_⟩
    simp [hl, State.drawTime]
  · obtain hc | hc := Nat.lt_or_eq_of_le hc
    · refine ⟨_, s.drawLevel, s.drawTime, exec_poll_records hl hc, ?_⟩
      have hlevel : s.capLevel.toggle = s.drawLevel := (Level.eq_toggle_of_ne hl).symm
      have hothers (i : Nat) (hi : i ≠ s.capCount) :
          (s.capBuf.setIfInBounds s.capCount (s.drawTime - s.capLastTs))[i]? = s.capBuf[i]? :=
        Vector.getElem?_setIfInBounds_ne hi.symm
      simpa [hl, hc, hc.ne, hlevel, elapsedTicks, State.drawTime] using hothers
    · refine ⟨_, s.drawLevel, s.drawTime, exec_poll_overflows hl hc, ?_⟩
      simp [hl, hc, State.drawTime]

/-! ### The end of a capture (R91, R115) -/

/-- Settles O24, by the three ways of `FINISH`. -/
theorem finishChecksTheCount : Obligations.FinishChecksTheCount := by
  unfold Obligations.FinishChecksTheCount
  intro s
  obtain ⟨hm, he⟩ | ⟨hm, hc, he⟩ | ⟨hm, hc, he⟩ := exec_finish_cases s
  · exact ⟨_, he, by simp [hm]⟩
  · exact ⟨_, he, by simp [hm, hc]⟩
  · exact ⟨_, he, by simp [hm, hc]⟩

/-- Settles O25: each end of the loop meets one way of `FINISH`, and the three answers differ. -/
theorem captureErrorsExcludeEachOther : Obligations.CaptureErrorsExcludeEachOther := by
  unfold Obligations.CaptureErrorsExcludeEachOther
  intro s hinv hp
  obtain ⟨hm, he⟩ | ⟨hm, hc, he⟩ | ⟨hm, hc, he⟩ := exec_finish_cases s <;> refine ⟨_, he, ?_⟩
  · have hcount : s.capCount = 84 := hinv.tooMany_count hm
    have hstall : s.capStall ≤ 100 := by simpa [hm] using hinv.ended (.inr hp)
    simp [hm, hcount, hstall, tooManyPulses_word_ne]
  · have hcount : s.capCount < 84 := Nat.lt_of_le_of_ne hinv.count_le hc
    have hstall : s.capStall = 101 := by simpa [hm] using hinv.ended (.inr hp)
    simp [hm, hcount, hcount.ne, hstall, (tooManyPulses_word_ne _ _).symm]
  · have hstall : s.capStall = 101 := by simpa [hm] using hinv.ended (.inr hp)
    simp [hm, hc, hstall]

/-! ### The decoder and the checksum (R92 to R97) -/

theorem payloadOf_getLsbD (buf : Vector Word Config.nTrans) (j : Fin 5) (i : Fin 8) :
    (payloadOf buf)[j].getLsbD (7 - i.val) =
      decide (50 < (dataDuration buf ⟨8 * j.val + i.val, by omega⟩).toNat) := by
  rw [payloadOf_getElem, payloadByte_getLsbD, payloadBit_eq buf ⟨8 * j.val + i.val, by omega⟩, classify_getLsbD]

/-- Settles O27. -/
theorem decodePacksMostSignificantBitFirst : Obligations.DecodePacksMostSignificantBitFirst := by
  unfold Obligations.DecodePacksMostSignificantBitFirst
  exact fun s => ⟨_, rfl, rfl, payloadOf_getLsbD s.capBuf, by simp⟩

/-- A payload is the one with its 40 bits. -/
theorem eq_payloadOf_of_getLsbD {buf : Vector Word Config.nTrans} {pl : Vector Byte Config.nBytes}
    (h : ∀ (j : Fin 5) (i : Fin 8), pl[j].getLsbD (7 - i.val) =
      decide (50 < (dataDuration buf ⟨8 * j.val + i.val, by omega⟩).toNat)) : pl = payloadOf buf := by
  refine Vector.ext fun j hj => BitVec.eq_of_getLsbD_eq fun m hm => ?_
  have hbit := (h ⟨j, hj⟩ ⟨7 - m, by omega⟩).trans (payloadOf_getLsbD buf ⟨j, hj⟩ ⟨7 - m, by omega⟩).symm
  have hindex : 7 - (7 - m) = m := by omega
  simpa [hindex] using hbit

/-- Settles O29: the 40 bits are the same. -/
theorem decodeIgnoresSyncEntries : Obligations.DecodeIgnoresSyncEntries := by
  unfold Obligations.DecodeIgnoresSyncEntries
  intro a b h
  refine eq_payloadOf_of_getLsbD fun j i => ?_
  rw [payloadOf_getLsbD, decide_eq_decide]
  exact h _

theorem payloadOf_eq_zero {buf : Vector Word Config.nTrans} (h : ∀ k : Fin 40, (dataDuration buf k).toNat ≤ 50) :
    payloadOf buf = #v[0, 0, 0, 0, 0] := by
  refine (eq_payloadOf_of_getLsbD fun j i => ?_).symm
  have hzero : (#v[0, 0, 0, 0, 0] : Vector Byte 5)[j] = 0 := by fin_cases j <;> rfl
  rw [hzero]
  simpa using h _

theorem exec_validate_passes {s : State} (hsum : sum8 s.pl = s.pl[4]) : exec .validate s = .next (s.goto .commit) := by
  simp [exec, execValidate, hsum]

/-! The steps of an undisturbed command from `DECODE` on. -/

section steps

variable {s : State}

theorem step_decode (hq : s.Quiet) (hp : s.phase = .decode) :
    step s = .next ((s.setPayload (payloadOf s.capBuf)).goto .validate) := step_quiet hq hp nofun

theorem step_validate_passes (hq : s.Quiet) (hp : s.phase = .validate) (hsum : sum8 s.pl = s.pl[4]) :
    step s = .next (s.goto .commit) := (step_quiet hq hp nofun).trans (exec_validate_passes hsum)

theorem step_commit (hq : s.Quiet) (hp : s.phase = .commit) :
    step s = .next ((s.readTime.commitReading s.drawTime).goto .answer) := step_quiet hq hp nofun

theorem step_answer (hq : s.Quiet) (hp : s.phase = .answer) : step s = .next (s.respond s.answerWord) :=
  step_quiet hq hp nofun

end steps

/-- Settles O32: the payload is all zero, and zero is the checksum of zeros. -/
theorem allShortTrainPassesTheChecksum : Obligations.AllShortTrainPassesTheChecksum := by
  unfold Obligations.AllShortTrainPassesTheChecksum
  intro s hq hp hshort
  have hzero := payloadOf_eq_zero hshort
  have hsum : sum8 (payloadOf s.capBuf) = (payloadOf s.capBuf)[4] := by
    rw [hzero]
    rfl
  have hvalidate := step_validate_passes (s := (s.setPayload (payloadOf s.capBuf)).goto .validate) hq rfl hsum
  exact ⟨_, runs_cons (step_decode hq hp) (runs_cons hvalidate (runs_zero _)), rfl, hzero⟩

/-! ### The controller's phases (R99 to R102) -/

/-- Settles O14, by `rd_valid` and the side of the interval. -/
theorem checkDecidesOnTheInterval : Obligations.CheckDecidesOnTheInterval := by
  unfold Obligations.CheckDecidesOnTheInterval
  intro s
  cases hv : s.rdValid with
  | false => exact ⟨_, exec_check_invalid hv, by simp [hv]⟩
  | true =>
    exact ⟨_, exec_check_valid hv, by simp, by simp, by simp, by simp, rfl, rfl, rfl, rfl, rfl, nofun,
      fun _ => ⟨s.drawElapsed s.rdMeasuredAt, rfl, rfl, by simp, fun he => if_pos he,
        fun he => if_neg (Nat.not_lt.mpr he)⟩⟩

/-- Settles O15. -/
theorem commitReplacesTheReading : Obligations.CommitReplacesTheReading := by
  unfold Obligations.CommitReplacesTheReading
  exact fun s => ⟨_, rfl, by simp [State.drawTime]⟩

/-- Settles O17: no sum of the value function reaches 2^16. -/
theorem tenthsAreExact : Obligations.TenthsAreExact := by
  unfold Obligations.TenthsAreExact
  intro int dec
  have hint := int.isLt
  have hdec := dec.isLt
  rw [tenths, BitVec.toNat_ofNat, Nat.mod_eq_of_lt (by omega)]
  omega

/-- Settles O16. -/
theorem answerDeliversTheReading : Obligations.AnswerDeliversTheReading := by
  unfold Obligations.AnswerDeliversTheReading
  intro s
  have htenths := fun int dec => (tenthsAreExact int dec).1
  refine ⟨_, s.answerWord, rfl, ?_⟩
  cases hc : s.cmd <;> simp [State.answerWord, hc, okWord, okValueWord_toNat, okReadingWord_toNat, htenths]

end Sys2Proof.Machine
end

section
/-! PROOFS. Commands from their acceptance to their answer: from the cache (R139), by a first capture (R130) and by a
valid one (R100), and what the time source can do to the holds and the interval (R135, R137, R143). -/

namespace Sys2Proof.Machine

section commands

variable {s rest : State} {c : HostCmd}

/-- A command offered in `IDLE` is accepted, and nothing interferes after it. -/
theorem step_accepts (ht : s.lineTampered = false) (hreq : s.portReq = none) (hp : s.phase = .idle)
    (ho : s.hostOffer = some (c.word, rest)) : step s = .next (rest.accept c) ∧ (rest.accept c).Quiet := by
  have hq : rest.Quiet := hostOffer_quiet ho ht hreq
  refine ⟨?_, hq⟩
  rw [step_command ht hreq ho, offerCommand, if_pos ((hostOffer_rest_phase ho).trans hp)]

theorem step_check_hits (hq : s.Quiet) (hp : s.phase = .check) (hv : s.rdValid = true)
    (he : (s.drawElapsed s.rdMeasuredAt).toNat < 200000) :
    step s = .next ((s.readElapsed s.rdMeasuredAt).goto .answer) := by
  rw [step_quiet hq hp nofun, Phase.instr, exec_check_valid hv, if_pos he]

theorem step_check_without (hq : s.Quiet) (hp : s.phase = .check) (hv : s.rdValid = false) :
    step s = .next (s.goto .initHigh) := by
  rw [step_quiet hq hp nofun, Phase.instr, exec_check_invalid hv]

theorem step_initHigh (hq : s.Quiet) (hp : s.phase = .initHigh) :
    step s = .next ((((s.setOutput .down).writeLine .high).readTime.startHold s.drawTime).goto .holdHigh) :=
  step_quiet hq hp nofun

end commands

/-- Settles O50: acceptance, a `CHECK` that hits, and `ANSWER`. -/
theorem cacheHitAnswersFromTheReading : Obligations.CacheHitAnswersFromTheReading := by
  unfold Obligations.CacheHitAnswersFromTheReading
  intro s rest c ht hreq hp ho hv he
  obtain ⟨haccept, hq⟩ := step_accepts ht hreq hp ho
  obtain ⟨hostIn, hostProgram, rfl⟩ := hostOffer_rest_eq ho
  have hrun := runs_cons haccept (runs_cons (step_check_hits hq rfl hv he)
    (runs_cons (step_answer hq rfl) (runs_zero _)))
  exact ⟨_, hrun, rfl, by simp, by simp, rfl, rfl, rfl, by simp⟩

/-- Settles O52: acceptance, a `CHECK` with no time read, and `INIT_HIGH`. -/
theorem firstCommandAlwaysCaptures : Obligations.FirstCommandAlwaysCaptures := by
  unfold Obligations.FirstCommandAlwaysCaptures
  intro s rest c ht hreq hp ho hv
  obtain ⟨haccept, hq⟩ := step_accepts ht hreq hp ho
  obtain ⟨hostIn, hostProgram, rfl⟩ := hostOffer_rest_eq ho
  have hrun := runs_cons haccept (runs_cons (step_check_without hq rfl hv)
    (runs_cons (step_initHigh hq rfl) (runs_zero _)))
  exact ⟨_, hrun, rfl, rfl, rfl, rfl, by simp, by simp⟩

/-- Settles O51: two steps to `COMMIT`, which replaces the Reading, and `ANSWER` with the new one. -/
theorem validCaptureIsCommittedAndAnswered : Obligations.ValidCaptureIsCommittedAndAnswered := by
  unfold Obligations.ValidCaptureIsCommittedAndAnswered
  intro s hq hp hsum
  have hrun := runs_cons (step_decode hq hp) (runs_cons (step_validate_passes hq rfl hsum)
    (runs_cons (step_commit hq rfl) (runs_cons (step_answer hq rfl) (runs_zero _))))
  exact ⟨_, hrun, rfl, rfl, rfl, rfl, rfl, rfl, rfl, rfl, ⟨rfl, rfl, rfl⟩, ⟨rfl, rfl⟩, rfl, rfl, rfl⟩

/-! ### The time source -/

/-- A hold whose time source has not moved since it began repeats. -/
theorem exec_hold_repeats {s : State} (hp : s.phase = .holdHigh ∨ s.phase = .holdLow)
    (he : (s.drawElapsed s.holdStart).toNat = 0) :
    exec s.phase.instr s = .next ((s.readElapsed s.holdStart).goto s.phase) := by
  obtain hp | hp := hp <;> simp [hp, Phase.instr, exec, execHoldHigh, execHoldLow, he]

/-- Settles O56, by induction on the number of steps: each uses up one advance of 0. -/
theorem holdHangsWhileTimeStandsStill : Obligations.HoldHangsWhileTimeStandsStill := by
  unfold Obligations.HoldHangsWhileTimeStandsStill
  intro s n
  induction n generalizing s with
  | zero => exact fun _ _ _ _ => ⟨s, runs_zero s, rfl, rfl⟩
  | succ n ih =>
    intro hq hp hstart hscript
    have hcount : s.drawCount = s.timeCount := by simp [State.drawCount, hscript, List.replicate_succ]
    have he : (s.drawElapsed s.holdStart).toNat = 0 := by simp [State.drawElapsed_eq, hcount, hstart]
    have hstep := (step_quiet hq rfl (by obtain hp | hp := hp <;> simp [hp])).trans (exec_hold_repeats hp he)
    obtain ⟨t, hrun, hphase, hresp⟩ := ih ((s.readElapsed s.holdStart).goto s.phase) hq hp
      (by simpa [hcount] using hstart) (by simp [hscript])
    exact ⟨t, runs_cons hstep hrun, hphase, hresp⟩

/-- Settles O57: an elapsed time of 200000 is no more than what the count has advanced. -/
theorem noCaptureWithinTheMinimumInterval : Obligations.NoCaptureWithinTheMinimumInterval := by
  unfold Obligations.NoCaptureWithinTheMinimumInterval
  intro s t T hat hT hexec hphase
  refine ⟨fun hv => ?_, fun hv => ?_⟩
  · rw [exec_check_valid hv] at hexec
    cases hexec
    have helapsed : 200000 ≤ (s.drawElapsed s.rdMeasuredAt).toNat := by
      by_contra hlt
      simp [hlt] at hphase
    have hadvance : (s.drawElapsed s.rdMeasuredAt).toNat ≤ s.drawCount - T := by
      rw [hat]
      exact elapsedTicks_le T s.drawCount (hT.trans s.timeCount_le_drawCount)
    simp only [State.goto_timeCount, State.readElapsed_timeCount]
    omega
  · rw [exec_check_invalid hv] at hexec
    cases hexec
    rfl

/-- Settles O58: the elapsed time is the advance modulo 2^32, which is `r`. -/
theorem intervalCheckIsBlindToWholeTurns : Obligations.IntervalCheckIsBlindToWholeTurns := by
  unfold Obligations.IntervalCheckIsBlindToWholeTurns
  intro s T m r hv hat hr hcount
  have helapsed : (s.drawElapsed s.rdMeasuredAt).toNat = r := by
    rw [State.drawElapsed, State.drawTime, hcount, hat, Nat.add_assoc, elapsedTicks_ofNat]
    omega
  exact ⟨_, exec_check_valid hv, if_pos (helapsed ▸ hr)⟩

end Sys2Proof.Machine
end
